-- ==== Sys2Proof/Word.lean ====
section
/-! DEFINITION. The word types of the block (spec/00_scope.md R5, spec/10_state.md R20). -/

namespace Sys2Proof

/-- A byte: 8 bits, read as an unsigned number 0..255 (R5). -/
abbrev Byte := BitVec 8

/-- A 16-bit pattern: a raw temperature reading, a coefficient before it is widened, a device address. -/
abbrev Half := BitVec 16

/-- An engine value: a 32-bit pattern read as a signed two's complement number (R5 `i32`, R4 `XLEN`). -/
abbrev I32 := BitVec 32

/-- The oversampling setting `oss`, 0..3 (spec/10_state.md R20 R23). -/
abbrev Oss := BitVec 2

end Sys2Proof
end

