-- ==== Sys2Proof/Config.lean ====
section
/-! DEFINITION. What an implementation fixes and the spec leaves open: the lengths of the waits
(spec/00_scope.md R4, spec/42_oversampling.md R122) and the device's answers (spec/00_scope.md R10). Every
constant here is opaque: no proof can see its value. -/

namespace Sys2Proof

/-- What the transport answers to one transaction (spec/20_memory.md R52, R53, R66): it failed, or it completed.
The bytes count for a read only. -/
inductive Reply where
  | ioError
  | ok (bytes : List Byte)
  deriving DecidableEq, Repr, Inhabited

/-- FREE VALUE. The reply to the n-th transaction whose reply no entry of `State.answers` gives
(spec/93_implementation_defined.md U2 "any value, drawn afresh at every transaction").
DESIGN CHOICE (log 3), safe: nothing constrains it. -/
opaque Config.freeReply : Nat → Reply

/-- `T_SETTLE_MS`, in milliseconds: no value in the spec (R4 OPEN, spec/70_reset_and_hazards.md R218). -/
opaque Config.tSettleMs : Nat

/-- `T_TEMP_MS`, in milliseconds: nominal 100, exact value open (R4). -/
opaque Config.tTempMs : Nat

/-- `DELAY_MS[0]` and, for n = 1, 2, 3, how much `DELAY_MS[n]` exceeds `DELAY_MS[n-1]`. The spec gives no number; it
gives the order `DELAY_MS[0] <= DELAY_MS[1] <= DELAY_MS[2] <= DELAY_MS[3]` (R122), which non-negative increments
express and nothing more. -/
opaque Config.delayStepMs : Nat → Nat

/-- `DELAY_MS[oss]`, the minimum conversion delay of a mode (spec/42_oversampling.md R120, R122). -/
def Config.delayMs (oss : Oss) : Nat :=
  ((List.range (oss.toNat + 1)).map Config.delayStepMs).sum

end Sys2Proof
end

