-- ==== Sys2Proof/Syntax.lean ====
section
/-! DEFINITION. The instructions: one constructor per row of spec/opcode_table.json. The nine requests of
spec/30_encoding.md R72 and R73 carry the operands of their layout as it stands, the mode byte and `len` whole, so that
an illegal operand is a term too and the operation refuses it as its pseudocode says. The two rows of kind "emitted"
are the control bytes of R78. -/

namespace Sys2Proof

/-- One constructor per row of the opcode table. -/
inductive Instr where
  /-- OPEN (R100): `mode` holds `oss` in bits 1..0, bits 7..2 are reserved (R71, R77). -/
  | openSensor (busId : Byte) (devAddr : Half) (addrBits : Byte) (clockHz : BitVec 32) (mode : Byte)
  /-- CLOSE (R101). -/
  | closeSensor
  /-- WRB (R102). -/
  | wrb (reg val : Byte)
  /-- RDB (R103): `len` 1..255, 0 is reserved (R77). -/
  | rdb (reg len : Byte)
  /-- LDCAL (R115). -/
  | ldcal
  /-- MEAST (R162). -/
  | meast
  /-- MEASP (R163). -/
  | measp
  /-- COMPT (R142). -/
  | compt (rawUT : Half)
  /-- COMPP (R143). -/
  | compp (rawUP b5 : I32) (mode : Byte)
  /-- CMD_TEMP (R78): the control byte 0x2E, emitted by the block, not a request. -/
  | cmdTemp
  /-- CMD_PRES (R78, R121): the control byte `ss110100`, emitted by the block, not a request. -/
  | cmdPres (oss : Oss)
  deriving DecidableEq, Repr

/-- The two commands the block writes to the control register (R78). -/
inductive Command where
  | temperature
  | pressure (oss : Oss)
  deriving DecidableEq, Repr

/-- The table's row of an emitted command. -/
def Command.instr : Command → Instr
  | .temperature => .cmdTemp
  | .pressure oss => .cmdPres oss

/-- Is the row a host request (the table's kind "request"), and not a control byte the block emits? -/
def Instr.isRequest : Instr → Bool
  | .openSensor _ _ _ _ _ => true
  | .closeSensor => true
  | .wrb _ _ => true
  | .rdb _ _ => true
  | .ldcal => true
  | .meast => true
  | .measp => true
  | .compt _ => true
  | .compp _ _ _ => true
  | .cmdTemp => false
  | .cmdPres _ => false

end Sys2Proof
end

