-- ==== Sys2Proof/Machine/State.lean ====
section
/-! DEFINITION. The state of the block (spec/10_state.md R20), its environment's pending inputs, the record of what can
be observed (spec/00_scope.md R11), and the state after reset (R35). -/

namespace Sys2Proof.Machine

/-- The eleven coefficients, each stored as an `i32` (R24). -/
structure Coeffs where
  ac1 : I32
  ac2 : I32
  ac3 : I32
  ac4 : I32
  ac5 : I32
  ac6 : I32
  b1 : I32
  b2 : I32
  mb : I32
  mc : I32
  md : I32
  deriving DecidableEq, Repr

/-- The eleven statuses (spec/60_exceptions.md R180). -/
inductive Status where
  | ok
  | ioError
  | insufficientData
  | uncalibrated
  | missingDependency
  | closed
  | divideByZero
  | illegalOperand
  | illegalOperation
  | alreadyOpen
  | calLocked
  deriving DecidableEq, Repr

/-- A response: a status, and the payload bytes that follow it (spec/30_encoding.md R74). -/
structure Response where
  status : Status
  payload : List Byte
  deriving DecidableEq, Repr

/-- The three waits (spec/60_exceptions.md R188), by the parameter that gives their length. -/
inductive Wait where
  /-- `T_SETTLE_MS`, in OPEN -/
  | settle
  /-- `T_TEMP_MS`, in MEAST -/
  | temp
  /-- `DELAY_MS[oss]`, in MEASP -/
  | delay (oss : Oss)
  deriving DecidableEq, Repr

/-- The outcome of a transaction in the record (spec/20_memory.md R65): as the transport answered it, or no answer, because
the transport never answers (spec/60_exceptions.md R192) or a reset came first (spec/70_reset_and_hazards.md R211). A
transaction is observed when it is issued (spec/00_scope.md R11), answered or not. -/
inductive TxOutcome where
  | ioError
  | ok (bytes : List Byte)
  | unanswered
  deriving DecidableEq, Repr

/-- An answered transaction's outcome. -/
def TxOutcome.ofReply : Reply → TxOutcome
  | .ioError => .ioError
  | .ok bs => .ok bs

/-- An entry of the record (spec/20_memory.md R65, R66; spec/00_scope.md R11). The outcome of a write or an open carries no
bytes. -/
inductive Event where
  | busOpen (busId : Byte) (devAddr : Half) (addrBits : Byte) (clockHz : BitVec 32) (outcome : TxOutcome)
  | busClose
  | write (addr val : Byte) (outcome : TxOutcome)
  | read (addr : Byte) (len : Nat) (outcome : TxOutcome)
  | wait (w : Wait)
  | response (r : Response)
  deriving DecidableEq, Repr

/-- What the transport does with the next transaction: it replies, or it never answers (spec/60_exceptions.md R192). -/
inductive Answer where
  | reply (r : Reply)
  | never
  deriving DecidableEq, Repr

/-- The host's reset input as a coming step meets it (spec/70_reset_and_hazards.md R211, R220 "reset the block at any time";
log 6). -/
inductive HostReset where
  /-- not asserted -/
  | no
  /-- asserted between operations -/
  | now
  /-- asserted while the operation runs, before its response: when `after` of its bus events have happened, and, if
  `outstanding`, while the transaction that comes next waits for its answer -/
  | during (after : Nat) (outstanding : Bool)
  deriving DecidableEq, Repr

/-- The state. The first eight fields are the block's (R20); `cal` is `CAL_VALID` with the eleven coefficients and `b5` is
`B5_VALID` with `B5L`: a register that "holds no value" (R25, R27) has none. The other seven are the model's own. -/
structure State where
  /-- `OPENED` (R22) -/
  opened : Bool
  /-- `H_BUSID` (R21) -/
  hBusId : Byte
  /-- `H_DEVADDR` (R21) -/
  hDevAddr : Half
  /-- `H_ADDRBITS` (R21) -/
  hAddrBits : Byte
  /-- `H_CLOCKHZ` (R21) -/
  hClockHz : BitVec 32
  /-- `OSS` (R23) -/
  oss : Oss
  /-- `CAL_VALID` and the store, "absent or whole" (R25). DESIGN CHOICE (log 2), safe. -/
  cal : Option Coeffs
  /-- `B5_VALID` and `B5L` (R27). DESIGN CHOICE (log 2), safe. -/
  b5 : Option I32
  /-- the request bytes the host has presented and the block has not taken (spec/30_encoding.md R70, R82; log 7) -/
  port : List Byte
  /-- a control byte the sequencer is handed to emit: the table's rows of kind "emitted" (R78; log 9) -/
  ctrl : Option Command
  /-- the environment's coming answers, first first (spec/00_scope.md R10; log 3) -/
  answers : List Answer
  /-- how many free replies have been drawn (spec/93_implementation_defined.md U2; log 3) -/
  draws : Nat
  /-- the reset input over the coming steps, first first; not asserted past its end (spec/70_reset_and_hazards.md R211, R220;
  log 6) -/
  resets : List HostReset
  /-- an operation waits for a transaction the transport never answers (spec/60_exceptions.md R192; log 5) -/
  hung : Bool
  /-- bus events and responses, oldest first (spec/00_scope.md R11; log 10) -/
  record : List Event
  deriving DecidableEq, Repr

/-- Why the machine stops. -/
inductive Fault where
  /-- Raised by `step` of a hung block whose reset input is not asserted: "the operation never ends and the block accepts nothing
  further" (spec/60_exceptions.md R192; spec/93_implementation_defined.md U9, treatment `stuck`). Safe: the hardware goes
  no further either. -/
  | transportSilent
  deriving DecidableEq, Repr

/-- Why an instruction has no meaning. -/
inductive Refusal where
  /-- Raised by an arm of `exec` whose instruction has no meaning yet; no arm does. Safe. -/
  | notModelled (mnemonic : String)
  deriving DecidableEq, Repr

/-- What a step or a meaning answers. -/
abbrev Result := Host.Outcome State Fault Refusal

/-- The state after reset (R35): no handle, no coefficients, no B5. The handle fields and `OSS` are unspecified there;
the model names 0 for each. DESIGN CHOICE (log 1), unsafe. Nothing is presented, answered or recorded yet. -/
def State.reset : State where
  opened := false
  hBusId := 0
  hDevAddr := 0
  hAddrBits := 0
  hClockHz := 0
  oss := 0
  cal := none
  b5 := none
  port := []
  ctrl := none
  answers := []
  draws := 0
  resets := []
  hung := false
  record := []

end Sys2Proof.Machine
end

