-- ==== Sys2Proof/Machine/Arith.lean ====
section
/-! DEFINITION. The engine primitives (spec/00_scope.md R5, R6, R7): each computes the exact integer and narrows it once, at
the end, to the pattern mod 2^32. -/

namespace Sys2Proof.Machine

/-- `s32(n)`: the `i32` whose pattern is `n mod 2^32` (R5). -/
def s32 (n : Int) : I32 := BitVec.ofInt 32 n

/-- `add32(a, b) = s32(a + b)` (R6). -/
def add32 (a b : I32) : I32 := s32 (a.toInt + b.toInt)

/-- `sub32(a, b) = s32(a - b)` (R6). -/
def sub32 (a b : I32) : I32 := s32 (a.toInt - b.toInt)

/-- `mul32(a, b) = s32(a * b)` (R6). -/
def mul32 (a b : I32) : I32 := s32 (a.toInt * b.toInt)

/-- `shl32(a, n) = s32(a * 2^n)` (R6). -/
def shl32 (a : I32) (n : Nat) : I32 := s32 (a.toInt * 2 ^ n)

/-- `asr32(a, n) = s32(floor(a / 2^n))` (R6). -/
def asr32 (a : I32) (n : Nat) : I32 := s32 (Int.fdiv a.toInt (2 ^ n))

/-- `sdiv32(a, b) = s32(floor(a / b))`, rounding toward minus infinity (R7, R132). Used with `b != 0` only. -/
def sdiv32 (a b : I32) : I32 := s32 (Int.fdiv a.toInt b.toInt)

/-- `udiv32(a, b) = s32(floor(u32(a) / u32(b)))` (R7, R133). Used with `b != 0` only. -/
def udiv32 (a b : I32) : I32 := s32 (Int.fdiv (a.toNat : Int) (b.toNat : Int))

end Sys2Proof.Machine
end

