-- ==== Sys2Proof/WellFormed.lean ====
section
/-! DEFINITION. Which instructions are legal (spec/30_encoding.md R77). -/

namespace Sys2Proof

/-- Legal operands (R77): (a) a mode byte holds `oss` in {0,1,2,3} and no reserved bit; (b) `len` of RDB is 1..255;
(c) every other operand value is legal. -/
def Instr.WellFormed : Instr → Bool
  | .openSensor _ _ _ _ mode => decide (mode.toNat ≤ 3)
  | .closeSensor => true
  | .wrb _ _ => true
  | .rdb _ len => decide (1 ≤ len.toNat)
  | .ldcal => true
  | .meast => true
  | .measp => true
  | .compt _ => true
  | .compp _ _ mode => decide (mode.toNat ≤ 3)
  | .cmdTemp => true
  | .cmdPres _ => true

end Sys2Proof
end

