-- ==== Sys2Proof/Decode.lean ====
section
/-! DEFINITION. The decoder of requests (spec/30_encoding.md R70 to R77, R82, R84), total on any bytes, the decoder of
the emitted control byte (R78, R121), then the encoder written from the same layouts, and the byte-order helpers
both use. -/

namespace Sys2Proof

/-! ### Fields and byte order -/

/-- The reserved bits 7..2 of a mode byte (R71, R77). -/
def modeReserved (mode : Byte) : BitVec 6 := mode.extractLsb' 2 6

/-- `oss`, bits 1..0 of a mode byte (R71). -/
def modeOss (mode : Byte) : Oss := mode.extractLsb' 0 2

/-- A two-byte quantity, big-endian: the first byte is the more significant (R71, spec/20_memory.md R55). -/
def be16 (hi lo : Byte) : Half := hi ++ lo

/-- A four-byte quantity, big-endian (R71). -/
def be32 (b3 b2 b1 b0 : Byte) : BitVec 32 := be16 b3 b2 ++ be16 b1 b0

/-- The two bytes of a 16-bit field, most significant first (R71, R75). -/
def bytes16 (x : Half) : List Byte := [x.extractLsb' 8 8, x.extractLsb' 0 8]

/-- The four bytes of a 32-bit field, most significant first (R71, R75). -/
def bytes32 (x : BitVec 32) : List Byte :=
  [x.extractLsb' 24 8, x.extractLsb' 16 8, x.extractLsb' 8 8, x.extractLsb' 0 8]

/-! ### Requests -/

/-- What the decoder makes of the bytes at the host port (R84); `rest` are the bytes after the request. -/
inductive Decoded where
  /-- a legal request -/
  | operation (i : Instr) (rest : List Byte)
  /-- ILLEGAL_OPERAND: byte 0 selects `i`, an operand of it has a reserved value (R77) -/
  | illegalOperand (i : Instr) (rest : List Byte)
  /-- ILLEGAL_OPERATION: a reserved opcode, length 1 (R76, R82) -/
  | illegalOperation (opcode : Byte) (rest : List Byte)
  /-- the whole request is not there yet (R82: "The operation starts only when the whole request has been taken") -/
  | incomplete
  deriving DecidableEq, Repr

/-- The operand check of R77, by the bits of the mode byte and by `len`. -/
def legalOperands : Instr → Bool
  | .openSensor _ _ _ _ mode => modeReserved mode == 0
  | .closeSensor => true
  | .wrb _ _ => true
  | .rdb _ len => !(len == 0)
  | .ldcal => true
  | .meast => true
  | .measp => true
  | .compt _ => true
  | .compp _ _ mode => modeReserved mode == 0
  | .cmdTemp => true
  | .cmdPres _ => true

/-- A request whose bytes have all been taken, by its operands (R77, R84). -/
def classify (i : Instr) (rest : List Byte) : Decoded :=
  if legalOperands i then .operation i rest else .illegalOperand i rest

/-- Operands of OPEN (R73): busId, devAddr, addrBits, clockHz, mode. -/
def decodeOpen : List Byte → Decoded
  | b :: a1 :: a0 :: w :: c3 :: c2 :: c1 :: c0 :: m :: rest =>
    classify (.openSensor b (be16 a1 a0) w (be32 c3 c2 c1 c0) m) rest
  | _ => .incomplete

/-- Operands of WRB (R73): reg, val. -/
def decodeWrb : List Byte → Decoded
  | r :: v :: rest => classify (.wrb r v) rest
  | _ => .incomplete

/-- Operands of RDB (R73): reg, len. -/
def decodeRdb : List Byte → Decoded
  | r :: n :: rest => classify (.rdb r n) rest
  | _ => .incomplete

/-- Operand of COMPT (R73): rawUT. -/
def decodeCompt : List Byte → Decoded
  | u1 :: u0 :: rest => classify (.compt (be16 u1 u0)) rest
  | _ => .incomplete

/-- Operands of COMPP (R73): rawUP, B5, mode. -/
def decodeCompp : List Byte → Decoded
  | p3 :: p2 :: p1 :: p0 :: f3 :: f2 :: f1 :: f0 :: m :: rest =>
    classify (.compp (be32 p3 p2 p1 p0) (be32 f3 f2 f1 f0) m) rest
  | _ => .incomplete

/-- The decoder (R72, R82, R84): byte 0 selects the operation, its length fixes how many bytes are taken. -/
def decode : List Byte → Decoded
  | [] => .incomplete
  | op :: args =>
    if op == 0x01#8 then decodeOpen args
    else if op == 0x02#8 then classify .closeSensor args
    else if op == 0x03#8 then decodeWrb args
    else if op == 0x04#8 then decodeRdb args
    else if op == 0x05#8 then classify .ldcal args
    else if op == 0x06#8 then classify .meast args
    else if op == 0x07#8 then classify .measp args
    else if op == 0x08#8 then decodeCompt args
    else if op == 0x09#8 then decodeCompp args
    else .illegalOperation op args

/-- How many bytes the decoder takes for an opcode (R73, R82). -/
def requestLength (op : Byte) : Nat :=
  if op == 0x01#8 || op == 0x09#8 then 10
  else if op == 0x03#8 || op == 0x04#8 || op == 0x08#8 then 3
  else 1

/-! ### The emitted control byte -/

/-- Function field of the temperature command and of the pressure command, bits 5..0 (R78). -/
def functionField (b : Byte) : BitVec 6 := b.extractLsb' 0 6

/-- The control byte read back as a command (R78): 0x2E, or `ss110100`. -/
def decodeCommand (b : Byte) : Option Command :=
  if b == 0x2E#8 then some .temperature
  else if functionField b == 0b110100#6 then some (.pressure (b.extractLsb' 6 2))
  else none

/-- `CommandByte(oss) = 0x34 + ((oss << 6) & 0xC0)` (spec/42_oversampling.md R121). -/
def pressureCommandByte (oss : Oss) : Byte :=
  0x34#8 + (((oss.setWidth 8) <<< 6) &&& 0xC0#8)

/-- The byte a command writes to the control register (R78, R79). -/
def commandByte : Command → Byte
  | .temperature => 0x2E#8
  | .pressure oss => pressureCommandByte oss

/-! ### The encoder -/

/-- The bytes of an instruction (R73; R78 for the emitted rows). -/
def encode : Instr → List Byte
  | .openSensor b a w c m => [0x01#8, b] ++ bytes16 a ++ [w] ++ bytes32 c ++ [m]
  | .closeSensor => [0x02#8]
  | .wrb r v => [0x03#8, r, v]
  | .rdb r n => [0x04#8, r, n]
  | .ldcal => [0x05#8]
  | .meast => [0x06#8]
  | .measp => [0x07#8]
  | .compt u => 0x08#8 :: bytes16 u
  | .compp p f m => [0x09#8] ++ bytes32 p ++ bytes32 f ++ [m]
  | .cmdTemp => [commandByte .temperature]
  | .cmdPres oss => [commandByte (.pressure oss)]

/-! ### Words as spec/opcode_table.json numbers them -/

/-- The n low bytes of w, most significant first. -/
def wordBytes : Nat → Nat → List Byte
  | 0, _ => []
  | n + 1, w => wordBytes n (w / 256) ++ [BitVec.ofNat 8 w]

/-- The bytes of the request whose bits the table numbers w. The table reads a whole request as ONE number, bit 0 its
least significant bit, so the opcode byte is the most significant of the nbits/8 bytes (spec/98_reader.md; the rows'
"match" and "fixed"). Bits the table does not give are 0, up to the length of the request (R82).
DEDUCED (log 8), safe: it says only how the host's question is read. -/
def tableBytes (nbits w : Nat) : List Byte :=
  let given := wordBytes (nbits / 8) w
  (given ++ List.replicate 10 0#8).take (requestLength (given.headD 0#8))

/-- The emitted command a table word of one byte stands for, if it is one (rows CMD_TEMP and CMD_PRES). -/
def tableCommand (nbits w : Nat) : Option Command :=
  if nbits / 8 == 1 then decodeCommand (BitVec.ofNat 8 w) else none

/-- The instruction byte 0 selects, whether its operands are legal or not (the table's note: "this operation with an
illegal operand"). -/
def Decoded.instr? : Decoded → Option Instr
  | .operation i _ => some i
  | .illegalOperand i _ => some i
  | .illegalOperation _ _ => none
  | .incomplete => none

/-- The instruction the decoders read from a table word: the control byte's decoder for the rows of kind "emitted", the
request decoder for the others. -/
def decodeTableWord (nbits w : Nat) : Option Instr :=
  match tableCommand nbits w with
  | some c => some c.instr
  | none => (decode (tableBytes nbits w)).instr?

end Sys2Proof
end

