-- ==== Sys2Proof/Machine/Operands.lean ====
section
/-! DEFINITION. The bytes the block reads and writes, as values: the calibration block (spec/41_calibration.md R110 to
R114), the raw readings (spec/44_acquisition.md R160, R161), the modes (spec/42_oversampling.md R120 to R123), the
sub-registers (spec/20_memory.md R51), status codes and payloads (spec/60_exceptions.md R180, spec/30_encoding.md R74,
R75). -/

namespace Sys2Proof.Machine

/-! ### Sub-registers the block uses on its own (R51) -/

/-- `CAL_BASE` -/
def calBase : Byte := 0xAA#8

/-- `CAL_LEN` (spec/00_scope.md R4) -/
def calLen : Nat := 22

/-- `CTRL`, the control register -/
def ctrlReg : Byte := 0xF4#8

/-- `DATA`, the data register, shared by the two readings -/
def dataReg : Byte := 0xF6#8

/-! ### The calibration block -/

/-- `DecS16(hi, lo) = sext_16(hi ++ lo)` (R111). -/
def decS16 (hi lo : Byte) : I32 := (be16 hi lo).signExtend 32

/-- `DecU16(hi, lo) = zext_16(hi ++ lo)` (R112): never sign-extended. -/
def decU16 (hi lo : Byte) : I32 := (be16 hi lo).setWidth 32

/-- Byte i of a read: the content of sub-register `addr + i` (spec/20_memory.md R53). A decoder asks for no byte past the
length read. -/
def byteAt (bs : List Byte) (i : Nat) : Byte := bs.getD i 0#8

/-- `DecodeCal(c[0..21])` (R114), on the 22 bytes of the block. -/
def decodeCal (c : List Byte) : Coeffs where
  ac1 := decS16 (byteAt c 0) (byteAt c 1)
  ac2 := decS16 (byteAt c 2) (byteAt c 3)
  ac3 := decS16 (byteAt c 4) (byteAt c 5)
  ac4 := decU16 (byteAt c 6) (byteAt c 7)
  ac5 := decU16 (byteAt c 8) (byteAt c 9)
  ac6 := decU16 (byteAt c 10) (byteAt c 11)
  b1 := decS16 (byteAt c 12) (byteAt c 13)
  b2 := decS16 (byteAt c 14) (byteAt c 15)
  mb := decS16 (byteAt c 16) (byteAt c 17)
  mc := decS16 (byteAt c 18) (byteAt c 19)
  md := decS16 (byteAt c 20) (byteAt c 21)

/-! ### The oversampling modes -/

/-- The raw pressure shift `8 - oss` (R123). -/
def rawShift (oss : Oss) : Nat := 8 - oss.toNat

/-- What a mode exposes (R120): "(oss, delayMs, commandByte)". -/
structure Mode where
  oss : Oss
  delayMs : Nat
  commandByte : Byte

/-- The mode of an `oss` (R120). -/
def modeOf (oss : Oss) : Mode where
  oss := oss
  delayMs := Config.delayMs oss
  commandByte := pressureCommandByte oss

/-- The length of a wait in milliseconds, a lower bound (spec/44_acquisition.md R166, spec/70_reset_and_hazards.md R219). -/
def waitMs : Wait → Nat
  | .settle => Config.tSettleMs
  | .temp => Config.tTempMs
  | .delay oss => Config.delayMs oss

/-! ### The raw readings -/

/-- `DecodeUT(b[0], b[1]) = zext_16(b[0] ++ b[1])` (R160). -/
def decodeUT (b : List Byte) : Half := be16 (byteAt b 0) (byteAt b 1)

/-- `DecodeUP(b[0], b[1], b[2], oss) = (b[0]*65536 + b[1]*256 + b[2]) >> (8 - oss)` (R161). -/
def decodeUP (b : List Byte) (oss : Oss) : I32 :=
  BitVec.ofNat 32
    (((byteAt b 0).toNat * 65536 + (byteAt b 1).toNat * 256 + (byteAt b 2).toNat) / 2 ^ rawShift oss)

/-! ### Responses -/

/-- The status codes (R180). -/
def statusCode : Status → Byte
  | .ok => 0x00#8
  | .ioError => 0x01#8
  | .insufficientData => 0x02#8
  | .uncalibrated => 0x03#8
  | .missingDependency => 0x04#8
  | .closed => 0x05#8
  | .divideByZero => 0x06#8
  | .illegalOperand => 0x07#8
  | .illegalOperation => 0x08#8
  | .alreadyOpen => 0x09#8
  | .calLocked => 0x0A#8

/-- A response as bytes: the status, then the payload (R74). -/
def responseBytes (r : Response) : List Byte := statusCode r.status :: r.payload

/-- Payload of LDCAL: the eleven coefficients as `i32`, in decode order (R75). -/
def payloadCal (c : Coeffs) : List Byte :=
  bytes32 c.ac1 ++ bytes32 c.ac2 ++ bytes32 c.ac3 ++ bytes32 c.ac4 ++ bytes32 c.ac5 ++ bytes32 c.ac6 ++
    bytes32 c.b1 ++ bytes32 c.b2 ++ bytes32 c.mb ++ bytes32 c.mc ++ bytes32 c.md

/-- Payload of COMPT: T10, B5 (R75). -/
def payloadTemp (t10 b5 : I32) : List Byte := bytes32 t10 ++ bytes32 b5

/-- Payload of MEAST: T10, B5, UT (R75). -/
def payloadMeast (t10 b5 : I32) (ut : Half) : List Byte := bytes32 t10 ++ bytes32 b5 ++ bytes16 ut

/-- Payload of COMPP: Pa, hPa (R75). -/
def payloadPres (pa hPa : I32) : List Byte := bytes32 pa ++ bytes32 hPa

/-- Payload of MEASP: Pa, hPa, UP (R75). -/
def payloadMeasp (pa hPa up : I32) : List Byte := bytes32 pa ++ bytes32 hPa ++ bytes32 up

end Sys2Proof.Machine
end

