-- ==== Sys2Proof/Machine/Engine.lean ====
section
/-! DEFINITION. The compensation engine (spec/43_compensation.md R130 to R146): two pure functions of their operands and the
coefficients. Every name of R135 and R137 that a later line uses is a function here, so that each line can be held
beside the rule. -/

namespace Sys2Proof.Machine

/-! ### The temperature function (R135) -/

/-- `X1 = ((UT - AC6) * AC5) >> 15`. -/
def tempX1 (ut : Half) (c : Coeffs) : I32 :=
  asr32 (mul32 (sub32 (ut.setWidth 32) c.ac6) c.ac5) 15

/-- The numerator `n = MC << 11`. -/
def tempNumerator (c : Coeffs) : I32 := shl32 c.mc 11

/-- The divisor `d = X1 + MD`. -/
def tempDivisor (ut : Half) (c : Coeffs) : I32 := add32 (tempX1 ut c) c.md

/-- `B5 = X1 + X2` with `X2 = n / d`, for `d != 0`. -/
def tempB5 (ut : Half) (c : Coeffs) : I32 :=
  add32 (tempX1 ut c) (sdiv32 (tempNumerator c) (tempDivisor ut c))

/-- `T10 = (B5 + 8) >> 4`: tenths of a degree Celsius (R136). -/
def tempT10 (b5 : I32) : I32 := asr32 (add32 b5 8) 4

/-- `ComputeTemperature(UT, calib) -> (T10, B5) | DivZero` (R135, R140); `none` is DivZero. -/
def computeTemperature (ut : Half) (c : Coeffs) : Option (I32 × I32) :=
  if tempDivisor ut c == 0 then none
  else some (tempT10 (tempB5 ut c), tempB5 ut c)

/-! ### The pressure function (R137) -/

/-- `B6 = B5 - 4000`. -/
def presB6 (b5 : I32) : I32 := sub32 b5 4000

/-- `Q = B6*B6 >> 12`, used twice. -/
def presQ (b6 : I32) : I32 := asr32 (mul32 b6 b6) 12

/-- `X3a = X1a + X2a` with `X1a = (B2 * Q) >> 11` and `X2a = (AC2 * B6) >> 11`. -/
def presX3a (c : Coeffs) (b6 : I32) : I32 :=
  add32 (asr32 (mul32 c.b2 (presQ b6)) 11) (asr32 (mul32 c.ac2 b6) 11)

/-- `B3 = (((AC1*4 + X3a) << oss) + 2) / 4`. -/
def presB3 (c : Coeffs) (b6 : I32) (oss : Oss) : I32 :=
  sdiv32 (add32 (shl32 (add32 (mul32 c.ac1 4) (presX3a c b6)) oss.toNat) 2) 4

/-- `X3b = ((X1b + X2b) + 2) >> 2` with `X1b = (AC3 * B6) >> 13` and `X2b = (B1 * Q) >> 16`. -/
def presX3b (c : Coeffs) (b6 : I32) : I32 :=
  asr32 (add32 (add32 (asr32 (mul32 c.ac3 b6) 13) (asr32 (mul32 c.b1 (presQ b6)) 16)) 2) 2

/-- `B4 = (AC4 * (X3b + 32768)) >> 15`, signed product, arithmetic shift. -/
def presB4 (c : Coeffs) (b6 : I32) : I32 :=
  asr32 (mul32 c.ac4 (add32 (presX3b c b6) 32768)) 15

/-- The B7 scale `50000 >> oss` (spec/42_oversampling.md R123). -/
def b7Scale (oss : Oss) : I32 := asr32 50000 oss.toNat

/-- `B7 = (UP - B3) * (50000 >> oss)`. -/
def presB7 (up b3 : I32) (oss : Oss) : I32 := mul32 (sub32 up b3) (b7Scale oss)

/-- The Pa step (R138): bit 31 of B7 clear gives `(B7*2)/B4`, set gives `(B7/B4)*2`, both divisions unsigned. -/
def paStep (b7 b4 : I32) : I32 :=
  if b7.getLsbD 31 == false then udiv32 (shl32 b7 1) b4
  else mul32 (udiv32 b7 b4) 2

/-- The final correction (R137): from `p0` to `Pa`. -/
def presPa (p0 : I32) : I32 :=
  let h := asr32 p0 8
  let x1d := asr32 (mul32 (mul32 h h) 3038) 16
  let x2c := asr32 (mul32 (-7357) p0) 16
  add32 p0 (asr32 (add32 (add32 x1d x2c) 3791) 4)

/-- `hPa = Pa / 100` (R139). -/
def presHPa (pa : I32) : I32 := sdiv32 pa 100

/-- `ComputePressure(UP, B5, calib, oss) -> (Pa, hPa) | DivZero` (R137, R140); `none` is DivZero. -/
def computePressure (up b5 : I32) (c : Coeffs) (oss : Oss) : Option (I32 × I32) :=
  let b6 := presB6 b5
  let b4 := presB4 c b6
  if b4 == 0 then none
  else
    let pa := presPa (paStep (presB7 up (presB3 c b6 oss) oss) b4)
    some (pa, presHPa pa)

end Sys2Proof.Machine
end

