-- ==== Sys2Proof/Machine/Flags.lean ====
section
/-! DEFINITION. The three flags (spec/10_state.md R32: "The only flags are `OPENED`, `CAL_VALID` and `B5_VALID`"); there are
no arithmetic condition codes. -/

namespace Sys2Proof.Machine

/-- `OPENED` (R22). -/
def State.openedFlag (s : State) : Bool := s.opened

/-- `CAL_VALID` (R26): the store is populated. -/
def State.calValid (s : State) : Bool := s.cal.isSome

/-- `B5_VALID` (R27): the latch holds the B5 of the current cycle. -/
def State.b5Valid (s : State) : Bool := s.b5.isSome

/-- `B5_VALID <- 0`; `B5L` then holds no value (R27). -/
def State.clearLatch (s : State) : State := { s with b5 := none }

/-- `B5L <- v; B5_VALID <- 1` (R27, R162). -/
def State.latch (s : State) (v : I32) : State := { s with b5 := some v }

/-- The eleven coefficients, all at once, and `CAL_VALID <- 1` (R25, R115). -/
def State.populate (s : State) (c : Coeffs) : State := { s with cal := some c }

/-- What a successful OPEN writes (R100): the handle, `OSS`, `OPENED <- 1; CAL_VALID <- 0; B5_VALID <- 0`. -/
def State.construct (s : State) (busId : Byte) (devAddr : Half) (addrBits : Byte) (clockHz : BitVec 32)
    (oss : Oss) : State :=
  { s with
    hBusId := busId, hDevAddr := devAddr, hAddrBits := addrBits, hClockHz := clockHz
    oss := oss, opened := true, cal := none, b5 := none }

/-- What CLOSE writes (R101): `OPENED <- 0; B5_VALID <- 0`. -/
def State.release (s : State) : State := { s with opened := false, b5 := none }

end Sys2Proof.Machine
end

