-- ==== Sys2Proof/Machine/Ops.lean ====
section
/-! DEFINITION. The shared operations: the record, ending an operation with a response (spec/00_scope.md R9), the reset
input, the bus transactions (spec/20_memory.md R52, R53, R66) and the wait (spec/44_acquisition.md R166), taking what the host
presents. An operation that needs the environment takes the rest of itself as `k`, so that a transaction that fails or hangs runs none
of it. -/

namespace Sys2Proof.Machine

/-! ### Record and responses -/

/-- Append an event to the record, in issue order (R65). -/
def State.log (s : State) (e : Event) : State := { s with record := s.record ++ [e] }

/-- `return (...)`: the operation ends with status OK and its payload (R9, R74). -/
def State.succeed (s : State) (payload : List Byte) : State := s.log (.response ⟨.ok, payload⟩)

/-- `raise X`: the operation ends at once with status X and no payload; state written before stays written (R9, R74). This is
the block's one way of taking an error (spec/60_exceptions.md R184, R186): nothing is saved, nothing else changes. -/
def State.fail (s : State) (st : Status) : State := s.log (.response ⟨st, []⟩)

/-- A reserved opcode: ILLEGAL_OPERATION, no bus transaction, no state change (spec/30_encoding.md R76). -/
def illegalOperation (s : State) : State := s.fail .illegalOperation

/-! ### Reset -/

/-- The reset state (spec/70_reset_and_hazards.md R210): every register of the block takes its reset value, no bus transaction is
issued, no response is given, what has been recorded stays. What the host and the transport have still to present stays with
them. DESIGN CHOICE (log 6); log 1 for the values. -/
def State.applyReset (s : State) : State :=
  { State.reset with port := s.port, answers := s.answers, draws := s.draws, resets := s.resets, record := s.record }

/-- The step takes its entry of the reset input. -/
def State.takeReset (s : State) : State := { s with resets := s.resets.tail }

/-- Is reset asserted between operations? -/
def State.resetNow (s : State) : Bool := s.resets.head? == some .now

/-- The events of the bus port among events: transactions, BusOpen, BusClose and the waits between them
(spec/20_memory.md R65). -/
def busOf : List Event → List Event
  | [] => []
  | .response _ :: es => busOf es
  | e :: es => e :: busOf es

/-- A transaction still waiting for its answer, if the event is one: BusClose yields nothing (spec/20_memory.md R66). -/
def Event.outstanding : Event → List Event
  | .busOpen b a w c _ => [.busOpen b a w c .unanswered]
  | .busClose => []
  | .write addr v _ => [.write addr v .unanswered]
  | .read addr n _ => [.read addr n .unanswered]
  | .wait _ => []
  | .response _ => []

/-- How many answers of the transport events have taken. -/
def answersTaken (es : List Event) : Nat := (es.flatMap Event.outstanding).length

/-- What has happened of an operation's bus events when the reset comes (R211: "whatever bus transactions had completed stay
done"). -/
def happened (after : Nat) (outstanding : Bool) (bus : List Event) : List Event :=
  bus.take after ++ if outstanding then (bus.drop after).head?.toList.flatMap Event.outstanding else []

/-- An operation begun in `s`, whose bus events would be `bus`, abandoned by a reset (R211): the reset state, what has happened on
record, no response. An answer not given yet stays with the transport. -/
def State.abandon (s : State) (after : Nat) (outstanding : Bool) (bus : List Event) : State :=
  { s.applyReset with
    answers := s.answers.drop (answersTaken (bus.take after))
    draws := s.draws + (answersTaken (bus.take after) - s.answers.length)
    record := s.record ++ happened after outstanding bus }

/-- Run an operation on `s` under the reset input: to its end, or abandoned. DESIGN CHOICE (log 6): the moment of the reset is
counted in the operation's bus events, and what happens up to there does not depend on what would come after. -/
def State.runUnderReset (s : State) (run : State → Result) : Result :=
  match s.resets with
  | .during after outstanding :: _ =>
    match run s.takeReset with
    | .next t => .next (s.takeReset.abandon after outstanding (busOf (t.record.drop s.record.length)))
    | .fault f => .fault f
    | .refused r => .refused r
  | _ => run s.takeReset

/-! ### The transport -/

/-- A reply as the block sees it: a read of n bytes delivers at most n (R53), a write or an open none (n = 0; log 4). -/
def clipReply (n : Nat) : Reply → Reply
  | .ioError => .ioError
  | .ok bs => .ok (bs.take n)

/-- One transaction: the next answer is the first entry of `answers`, or the next free value when there is none (R10, U2).
It is recorded with its outcome. A reply is handed to `k`; a transport that never answers leaves the block hung
(spec/60_exceptions.md R192). -/
def transact (n : Nat) (event : TxOutcome → Event) (s : State) (k : Reply → State → State) : State :=
  match s.answers with
  | [] =>
    let r := clipReply n (Config.freeReply s.draws)
    k r ({ s with draws := s.draws + 1 }.log (event (.ofReply r)))
  | .reply r :: rest => k (clipReply n r) ({ s with answers := rest }.log (event (.ofReply (clipReply n r))))
  | .never :: rest => { s with answers := rest, hung := true }.log (event .unanswered)

/-- `WriteByte(addr, v)` (R8, R52): one write transaction; IOError raises IO_ERROR. -/
def writeByte (addr v : Byte) (s : State) (k : State → State) : State :=
  transact 0 (Event.write addr v) s fun r s1 =>
    match r with
    | .ioError => s1.fail .ioError
    | .ok _ => k s1

/-- `ReadExact(addr, n)` (R8, R53, R54): one read transaction; IOError raises IO_ERROR; fewer than n bytes are discarded and
raise INSUFFICIENT_DATA; `k` has exactly n bytes. -/
def readExact (addr : Byte) (n : Nat) (s : State) (k : List Byte → State → State) : State :=
  transact n (Event.read addr n) s fun r s1 =>
    match r with
    | .ioError => s1.fail .ioError
    | .ok bs => if bs.length < n then s1.fail .insufficientData else k bs s1

/-- `BusOpen(busId, devAddr, addrBits, clockHz)` (R66, R100); IOError raises IO_ERROR. -/
def busOpen (busId : Byte) (devAddr : Half) (addrBits : Byte) (clockHz : BitVec 32) (s : State)
    (k : State → State) : State :=
  transact 0 (Event.busOpen busId devAddr addrBits clockHz) s fun r s1 =>
    match r with
    | .ioError => s1.fail .ioError
    | .ok _ => k s1

/-- `Wait(t)` (R8, R166): an event of the record; no transaction and no request during it. -/
def waitFor (w : Wait) (s : State) (k : State → State) : State := k (s.log (.wait w))

/-- The sequencer's command write: the command's byte to the control register (R78, R162, R163). -/
def writeCommand (c : Command) (s : State) (k : State → State) : State :=
  writeByte ctrlReg (commandByte c) s k

/-! ### Taking what is presented -/

/-- The request at the host port (R82). -/
def fetch (s : State) : Decoded := decode s.port

/-- The request's bytes have been taken; `rest` stays at the port (R82). -/
def State.take (s : State) (rest : List Byte) : State := { s with port := rest }

/-- The control byte has been handed over for emission. -/
def State.takeCommand (s : State) : State := { s with ctrl := none }

end Sys2Proof.Machine
end

