-- ==== Sys2Proof/Machine/Acquisition.lean ====
section
/-! DEFINITION. MEAST, MEASP and the pseudo-operation ACQ (spec/44_acquisition.md R162 to R168). -/

namespace Sys2Proof.Machine

/-- MEAST (R162): the temperature path. -/
def execMeast (s : State) : Result :=
  .next <|
    if !s.openedFlag then s.fail .closed
    else
      match s.cal with
      | none => s.fail .uncalibrated
      | some c =>
        writeCommand .temperature s.clearLatch fun s1 =>
          waitFor .temp s1 fun s2 =>
            readExact dataReg 2 s2 fun bs s3 =>
              match computeTemperature (decodeUT bs) c with
              | none => s3.fail .divideByZero
              | some (t10, b5) => (s3.latch b5).succeed (payloadMeast t10 b5 (decodeUT bs))

/-- MEASP (R163): the pressure path; it consumes the latch when its entry checks pass. -/
def execMeasp (s : State) : Result :=
  .next <|
    if !s.openedFlag then s.fail .closed
    else
      match s.cal with
      | none => s.fail .uncalibrated
      | some c =>
        match s.b5 with
        | none => s.fail .missingDependency
        | some b5 =>
          writeCommand (.pressure s.oss) s.clearLatch fun s1 =>
            waitFor (.delay s.oss) s1 fun s2 =>
              readExact dataReg 3 s2 fun bs s3 =>
                match computePressure (decodeUP bs s.oss) b5 c s.oss with
                | none => s3.fail .divideByZero
                | some (pa, hPa) => s3.succeed (payloadMeasp pa hPa (decodeUP bs s.oss))

/-- The last event is a response with status OK. -/
def State.endedOk (s : State) : Bool :=
  match s.record.getLast? with
  | some (.response r) => r.status == .ok
  | _ => false

/-- `ACQ` (spec/30_encoding.md R81, R167): MEAST followed, only if MEAST's status was OK, by MEASP. The host's two requests,
not an instruction. -/
def acquire (s : State) : Result :=
  match execMeast s with
  | .next s1 => if s1.endedOk then execMeasp s1 else .next s1
  | .fault f => .fault f
  | .refused r => .refused r

end Sys2Proof.Machine
end

