-- ==== Sys2Proof/Machine/BusOps.lean ====
section
/-! DEFINITION. OPEN, CLOSE, WRB, RDB (spec/40_bus_ops.md R100 to R104). -/

namespace Sys2Proof.Machine

/-- OPEN (R100). -/
def execOpen (busId : Byte) (devAddr : Half) (addrBits : Byte) (clockHz : BitVec 32) (mode : Byte)
    (s : State) : Result :=
  .next <|
    if modeReserved mode != 0 then s.fail .illegalOperand
    else if s.openedFlag then s.fail .alreadyOpen
    else
      busOpen busId devAddr addrBits clockHz s fun s1 =>
        waitFor .settle (s1.construct busId devAddr addrBits clockHz (modeOss mode)) fun s2 =>
          s2.succeed []

/-- CLOSE (R101): idempotent, always OK; BusClose only if a handle was open. -/
def execClose (s : State) : Result :=
  .next <| (if s.openedFlag then s.log .busClose else s).release.succeed []

/-- WRB (R102). -/
def execWrb (reg val : Byte) (s : State) : Result :=
  .next <|
    if !s.openedFlag then s.fail .closed
    else writeByte reg val s fun s1 => s1.succeed []

/-- RDB (R103): the bytes are returned undecoded. -/
def execRdb (reg len : Byte) (s : State) : Result :=
  .next <|
    if len == 0 then s.fail .illegalOperand
    else if !s.openedFlag then s.fail .closed
    else readExact reg len.toNat s fun bs s1 => s1.succeed bs

end Sys2Proof.Machine
end

