-- ==== Sys2Proof/Machine/Calibration.lean ====
section
/-! DEFINITION. LDCAL (spec/41_calibration.md R115). -/

namespace Sys2Proof.Machine

/-- LDCAL (R115): the eleven coefficients all at once, or nothing. -/
def execLdcal (s : State) : Result :=
  .next <|
    if !s.openedFlag then s.fail .closed
    else if s.calValid then s.fail .calLocked
    else
      readExact calBase calLen s fun bs s1 =>
        (s1.populate (decodeCal bs)).succeed (payloadCal (decodeCal bs))

end Sys2Proof.Machine
end

