-- ==== Sys2Proof/Machine/Commands.lean ====
section
/-! DEFINITION. CMD_TEMP and CMD_PRES (spec/30_encoding.md R78, R79): the rows of kind "emitted". -/

namespace Sys2Proof.Machine

/-- Emit a command alone: the one write transaction of its byte to the control register, while the handle is open
(spec/20_memory.md R50, spec/10_state.md R22). It is no request, so it ends in no response.
DESIGN CHOICE (log 9), safe: the write is the one MEAST and MEASP make. -/
def emitCommand (c : Command) (s : State) : State :=
  if s.openedFlag then transact 0 (Event.write ctrlReg (commandByte c)) s fun _ s1 => s1 else s

/-- CMD_TEMP (R78). -/
def execCmdTemp (s : State) : Result := .next (emitCommand .temperature s)

/-- CMD_PRES (R78, R121). -/
def execCmdPres (oss : Oss) (s : State) : Result := .next (emitCommand (.pressure oss) s)

end Sys2Proof.Machine
end

