-- ==== Sys2Proof/Machine/Compensation.lean ====
section
/-! DEFINITION. COMPT and COMPP (spec/43_compensation.md R142, R143): the engine on operands; no bus, no latch. -/

namespace Sys2Proof.Machine

/-- COMPT (R142). -/
def execCompt (rawUT : Half) (s : State) : Result :=
  .next <|
    match s.cal with
    | none => s.fail .uncalibrated
    | some c =>
      match computeTemperature rawUT c with
      | none => s.fail .divideByZero
      | some (t10, b5) => s.succeed (payloadTemp t10 b5)

/-- COMPP (R143). -/
def execCompp (rawUP b5 : I32) (mode : Byte) (s : State) : Result :=
  .next <|
    if modeReserved mode != 0 then s.fail .illegalOperand
    else
      match s.cal with
      | none => s.fail .uncalibrated
      | some c =>
        match computePressure rawUP b5 c (modeOss mode) with
        | none => s.fail .divideByZero
        | some (pa, hPa) => s.succeed (payloadPres pa hPa)

end Sys2Proof.Machine
end

