-- ==== Sys2Proof/Machine/Dispatch.lean ====
section
/-! DEFINITION. The meaning of each instruction: one arm per row of spec/opcode_table.json. -/

namespace Sys2Proof.Machine

def exec (i : Instr) (s : State) : Host.Outcome State Fault Refusal :=
  match i with
  | .openSensor busId devAddr addrBits clockHz mode => Sys2Proof.Machine.execOpen busId devAddr addrBits clockHz mode s
  | .closeSensor => Sys2Proof.Machine.execClose s
  | .wrb reg val => Sys2Proof.Machine.execWrb reg val s
  | .rdb reg len => Sys2Proof.Machine.execRdb reg len s
  | .ldcal => Sys2Proof.Machine.execLdcal s
  | .meast => Sys2Proof.Machine.execMeast s
  | .measp => Sys2Proof.Machine.execMeasp s
  | .compt rawUT => Sys2Proof.Machine.execCompt rawUT s
  | .compp rawUP b5 mode => Sys2Proof.Machine.execCompp rawUP b5 mode s
  | .cmdTemp => Sys2Proof.Machine.execCmdTemp s
  | .cmdPres oss => Sys2Proof.Machine.execCmdPres oss s

end Sys2Proof.Machine
end

