-- ==== Sys2Proof/Machine/Step.lean ====
section
/-! DEFINITION. One step of the block: the reset input, or the emission it was handed, or one whole request from the host
port (spec/00_scope.md R10, spec/30_encoding.md R82, spec/60_exceptions.md R189). -/

namespace Sys2Proof.Machine

/-- One step. A reset between operations comes first (spec/70_reset_and_hazards.md R220); a hung block makes no step
(spec/60_exceptions.md R192); a command handed over is emitted; else the request at the port runs to its response, or to the
reset that abandons it (R211); a reserved opcode is answered ILLEGAL_OPERATION; with no whole request there the block idles
and keeps all its state (spec/60_exceptions.md R191, spec/30_encoding.md R82). -/
def step (s : State) : Host.Outcome State Fault Refusal :=
  if s.resetNow then .next s.takeReset.applyReset
  else if s.hung then .fault .transportSilent
  else
    match s.ctrl with
    | some c => s.takeCommand.runUnderReset (exec c.instr)
    | none =>
      match fetch s with
      | .operation i rest => (s.take rest).runUnderReset (exec i)
      | .illegalOperand i rest => (s.take rest).runUnderReset (exec i)
      | .illegalOperation _ rest => (s.take rest).runUnderReset fun u => .next (illegalOperation u)
      | .incomplete => .next s

/-- s with the instruction of a table word placed where the next step finds it: a control byte at the emitter (log 9), a
request in front of what the host port holds (log 7); reset not asserted and no operation hanging, so that the next step
is its own. -/
def State.withFetchWord (s : State) (nbits w : Nat) : State :=
  match tableCommand nbits w with
  | some c => { s with ctrl := some c, resets := [], hung := false }
  | none => { s with ctrl := none, port := tableBytes nbits w ++ s.port, resets := [], hung := false }

end Sys2Proof.Machine
end

