-- ==== Sys2Proof/Safety.lean ====
section
/-! DEFINITION. The terms claims are stated in: the block's registers apart from its environment, the invariants of
spec/10_state.md R28, the entry checks of spec/60_exceptions.md R183, the cause table R181, payload lengths of
spec/30_encoding.md R75. -/

namespace Sys2Proof.Machine

/-- The registers of spec/10_state.md R20, and nothing of the environment. -/
structure Regs where
  opened : Bool
  hBusId : Byte
  hDevAddr : Half
  hAddrBits : Byte
  hClockHz : BitVec 32
  oss : Oss
  cal : Option Coeffs
  b5 : Option I32
  deriving DecidableEq, Repr

/-- The block's registers in a state. -/
def State.regs (s : State) : Regs where
  opened := s.opened
  hBusId := s.hBusId
  hDevAddr := s.hDevAddr
  hAddrBits := s.hAddrBits
  hClockHz := s.hClockHz
  oss := s.oss
  cal := s.cal
  b5 := s.b5

/-- What reset gives the block (spec/10_state.md R35): no handle open, no coefficients, no B5. The registers R35 calls
unspecified are not mentioned. -/
structure State.InReset (s : State) : Prop where
  closed : s.opened = false
  noStore : s.cal = none
  noLatch : s.b5 = none

/-- What every instruction leaves of the environment: the host's bytes, the emitter, the reset input; it only takes answers
from the front and only appends to the record. -/
structure EnvFrame (s t : State) : Prop where
  port : t.port = s.port
  ctrl : t.ctrl = s.ctrl
  resets : t.resets = s.resets
  answers : t.answers <:+ s.answers
  record : s.record <+: t.record

/-- A value is in a range, as a signed number. -/
def inRange (lo hi : Int) (x : I32) : Bool := decide (lo ≤ x.toInt) && decide (x.toInt ≤ hi)

/-- I2 of R28: the ranges of the eleven coefficients (R24). -/
def Coeffs.InRange (c : Coeffs) : Prop :=
  inRange (-32768) 32767 c.ac1 ∧ inRange (-32768) 32767 c.ac2 ∧ inRange (-32768) 32767 c.ac3 ∧
  inRange 0 65535 c.ac4 ∧ inRange 0 65535 c.ac5 ∧ inRange 0 65535 c.ac6 ∧
  inRange (-32768) 32767 c.b1 ∧ inRange (-32768) 32767 c.b2 ∧ inRange (-32768) 32767 c.mb ∧
  inRange (-32768) 32767 c.mc ∧ inRange (-32768) 32767 c.md

/-- I1 and I2 of R28. (I3 holds by the type of `oss`.) -/
structure State.Inv (s : State) : Prop where
  latchNeedsBoth : s.b5.isSome → s.opened ∧ s.cal.isSome
  storeInRange : ∀ c, s.cal = some c → c.InRange

/-- What an event of the record must look like: a response that is not OK carries no payload (spec/30_encoding.md R74); a read
asks for 1 to 255 bytes and is delivered at most as many (spec/20_memory.md R53); a write or an open is answered with no
bytes, if it is answered. -/
def Event.Lawful : Event → Prop
  | .busOpen _ _ _ _ r => r = .unanswered ∨ r = .ioError ∨ r = .ok []
  | .busClose => True
  | .write _ _ r => r = .unanswered ∨ r = .ioError ∨ r = .ok []
  | .read _ len r => 1 ≤ len ∧ len ≤ 255 ∧ (r = .unanswered ∨ r = .ioError ∨ ∃ bs, r = .ok bs ∧ bs.length ≤ len)
  | .wait _ => True
  | .response r => r.status ≠ .ok → r.payload = []

/-- Every event of the record is lawful. -/
def State.RecordLawful (s : State) : Prop := ∀ e ∈ s.record, e.Lawful

/-- The responses among events. -/
def responsesOf : List Event → List Response
  | [] => []
  | .response r :: es => r :: responsesOf es
  | _ :: es => responsesOf es

/-- Checks 2 to 5 of R183 in their order: the status an entry check ends a request with, if one fails. (Check 1 is the
decoder's.) -/
def entryStatus (i : Instr) (s : State) : Option Status :=
  if !i.WellFormed then some .illegalOperand
  else
    match i with
    | .openSensor _ _ _ _ _ => if s.opened then some .alreadyOpen else none
    | .closeSensor => none
    | .wrb _ _ => if s.opened then none else some .closed
    | .rdb _ _ => if s.opened then none else some .closed
    | .ldcal =>
      if !s.opened then some .closed
      else if s.cal.isSome then some .calLocked
      else none
    | .meast =>
      if !s.opened then some .closed
      else if s.cal.isNone then some .uncalibrated
      else none
    | .measp =>
      if !s.opened then some .closed
      else if s.cal.isNone then some .uncalibrated
      else if s.b5.isNone then some .missingDependency
      else none
    | .compt _ => if s.cal.isNone then some .uncalibrated else none
    | .compp _ _ _ => if s.cal.isNone then some .uncalibrated else none
    | .cmdTemp => none
    | .cmdPres _ => none

/-- The first transaction an operation whose entry checks pass issues, with its outcome; none where its first act is no
transaction the transport answers (spec/20_memory.md R50, R66). -/
def firstTransaction (i : Instr) (s : State) (o : TxOutcome) : Option Event :=
  match i with
  | .openSensor b a w c _ => some (.busOpen b a w c o)
  | .closeSensor => none
  | .wrb reg val => some (.write reg val o)
  | .rdb reg len => some (.read reg len.toNat o)
  | .ldcal => some (.read 0xAA#8 22 o)
  | .meast => some (.write 0xF4#8 0x2E#8 o)
  | .measp => some (.write 0xF4#8 (BitVec.ofNat 8 (0x34 + 64 * s.oss.toNat)) o)
  | .compt _ => none
  | .compp _ _ _ => none
  | .cmdTemp => none
  | .cmdPres _ => none

/-- The next step runs the request `i`, or would but for a reset during it, and leaves `rest` at the port. -/
structure State.Starts (s : State) (i : Instr) (rest : List Byte) : Prop where
  notHung : s.hung = false
  noCommand : s.ctrl = none
  request : decode s.port = .operation i rest

/-- What R211 says of an operation abandoned by reset: the reset state, `events` have happened and stay, `taken` of the
transport's answers were given, the request is gone. -/
structure State.AbandonedTo (s t : State) (rest : List Byte) (events : List Event) (taken : Nat) : Prop where
  inReset : t.InReset
  notHung : t.hung = false
  record : t.record = s.record ++ events
  port : t.port = rest
  answers : t.answers = s.answers.drop taken
  resets : t.resets = s.resets.tail

/-- The table of R181: the statuses other than OK an operation can end with. -/
def causes : Instr → List Status
  | .openSensor _ _ _ _ _ => [.illegalOperand, .alreadyOpen, .ioError]
  | .closeSensor => []
  | .wrb _ _ => [.closed, .ioError]
  | .rdb _ _ => [.illegalOperand, .closed, .ioError, .insufficientData]
  | .ldcal => [.closed, .calLocked, .ioError, .insufficientData]
  | .meast => [.closed, .uncalibrated, .ioError, .insufficientData, .divideByZero]
  | .measp => [.closed, .uncalibrated, .missingDependency, .ioError, .insufficientData, .divideByZero]
  | .compt _ => [.uncalibrated, .divideByZero]
  | .compp _ _ _ => [.illegalOperand, .uncalibrated, .divideByZero]
  | .cmdTemp => []
  | .cmdPres _ => []

/-- The payload length on OK (spec/30_encoding.md R75). -/
def payloadLength : Instr → Nat
  | .openSensor _ _ _ _ _ => 0
  | .closeSensor => 0
  | .wrb _ _ => 0
  | .rdb _ len => len.toNat
  | .ldcal => 44
  | .meast => 10
  | .measp => 12
  | .compt _ => 8
  | .compp _ _ _ => 8
  | .cmdTemp => 0
  | .cmdPres _ => 0

/-- The writes an instruction may issue: the sub-register and the byte (spec/40_bus_ops.md R102, spec/44_acquisition.md R168,
spec/30_encoding.md R78). -/
def mayWrite (i : Instr) (s : State) (addr val : Byte) : Prop :=
  match i with
  | .openSensor _ _ _ _ _ => False
  | .closeSensor => False
  | .wrb reg v => addr = reg ∧ val = v
  | .rdb _ _ => False
  | .ldcal => False
  | .meast => addr = 0xF4#8 ∧ val = 0x2E#8
  | .measp => addr = 0xF4#8 ∧ val = BitVec.ofNat 8 (0x34 + 64 * s.oss.toNat)
  | .compt _ => False
  | .compp _ _ _ => False
  | .cmdTemp => addr = 0xF4#8 ∧ val = 0x2E#8
  | .cmdPres oss => addr = 0xF4#8 ∧ val = BitVec.ofNat 8 (0x34 + 64 * oss.toNat)

end Sys2Proof.Machine
end

