-- ==== Sys2Proof/Certificates/Slice0/Obligations.lean ====
section
/-! DEFINITION. The statements for the provers, from the numbered rules of spec/. None is about a program. A statement that needs
the device to answer in a certain way says so through `State.answers`; the free replies past its end satisfy it whatever
they are. -/

open Sys2Proof Sys2Proof.Machine

/-! ### Encoding and fetching -/

/-- R84: `decode` is total and exact, `encode` its inverse on legal requests. -/
def Obligations.RequestCodecExact : Prop :=
  (∀ i rest, i.isRequest = true → i.WellFormed = true → decode (encode i ++ rest) = .operation i rest) ∧
  (∀ bs i rest, decode bs = .operation i rest →
    i.isRequest = true ∧ i.WellFormed = true ∧ bs = encode i ++ rest) ∧
  (∀ bs i rest, decode bs = .illegalOperand i rest →
    i.isRequest = true ∧ i.WellFormed = false ∧ bs = encode i ++ rest) ∧
  (∀ bs op rest, decode bs = .illegalOperation op rest →
    bs = op :: rest ∧ (op.toNat = 0 ∨ 10 ≤ op.toNat)) ∧
  (∀ op rest, op.toNat = 0 ∨ 10 ≤ op.toNat → decode (op :: rest) = .illegalOperation op rest) ∧
  (∀ bs, decode bs = .incomplete ↔ bs.length < requestLength (bs.headD 0#8)) ∧
  (∀ i j, i.isRequest = true → i.WellFormed = true → j.isRequest = true → j.WellFormed = true →
    encode i = encode j → i = j)

/-- R82, with the lengths of R73: the decoder takes as many bytes as the length of the opcode in byte 0, a reserved opcode
one. -/
def Obligations.RequestTakenWhole : Prop :=
  ((List.range 10).map fun n => requestLength (BitVec.ofNat 8 n)) = [1, 10, 1, 3, 3, 1, 1, 1, 3, 10] ∧
  ∀ op args i rest,
    (decode (op :: args) = .operation i rest ∨ decode (op :: args) = .illegalOperand i rest →
      requestLength op ≤ (op :: args).length ∧ rest = (op :: args).drop (requestLength op)) ∧
    (decode (op :: args) = .illegalOperation op rest → requestLength op = 1 ∧ rest = args)

/-- R78: the two command formats read back, and no byte that is not one of the five reads as a command. -/
def Obligations.CommandByteCodec : Prop :=
  (∀ c, decodeCommand (commandByte c) = some c) ∧
  (∀ b c, decodeCommand b = some c → commandByte c = b)

/-- Words written out from the layouts of R73 and the vectors V-ENC decode to the instruction they stand for. -/
def Obligations.WordsDecodeAsTheLayoutsSay : Prop :=
  decode [0x01, 0x02, 0x00, 0x77, 0x07, 0x00, 0x06, 0x1A, 0x80, 0x03] =
    .operation (.openSensor 2 0x77 7 400000 3) [] ∧
  decode [0x04, 0xAA, 0x16] = .operation (.rdb 0xAA 22) [] ∧
  decode [0x08, 0x6C, 0xFA] = .operation (.compt 27898) [] ∧
  decode [0x09, 0xFF, 0xFF, 0xFF, 0xFF, 0xFF, 0xFF, 0xF0, 0x60, 0x03] =
    .operation (.compp (-1) (-4000) 3) [] ∧
  decodeCommand 0xB4 = some (.pressure 2)

/-- When the bytes at the port are a request, a step that no reset disturbs runs that instruction on the state whose port is past
it. That the port is a stream of bytes is the model's choice (log 7), and so is that a request with an illegal operand is
the operation's own to refuse, as R100, R103 and R143 write it, where R84 and R183 speak of the decoder (log 12). -/
def Obligations.StepRunsDecodedRequest : Prop :=
  ∀ s i rest, s.resets.headD .no = .no → s.hung = false → s.ctrl = none →
    (i.isRequest = true → i.WellFormed = true → s.port = encode i ++ rest →
      step s = exec i { s with port := rest, resets := s.resets.tail }) ∧
    (decode s.port = .operation i rest →
      step s = exec i { s with port := rest, resets := s.resets.tail }) ∧
    (decode s.port = .illegalOperand i rest →
      step s = exec i { s with port := rest, resets := s.resets.tail })

/-- A step emits a command that has been handed over; with no whole request at the port the block idles and keeps all its
state (R191; the emitter is the model's choice, log 9). -/
def Obligations.StepEmitsOrIdles : Prop :=
  ∀ s, s.hung = false →
    (∀ c, s.resets.headD .no = .no → s.ctrl = some c →
      step s = exec c.instr { s with ctrl := none, resets := s.resets.tail }) ∧
    (s.resets.headD .no ≠ .now → s.ctrl = none → s.port.length < requestLength (s.port.headD 0#8) → step s = .next s)

/-- R76: a reserved opcode is answered ILLEGAL_OPERATION; no transaction, no state change. -/
def Obligations.ReservedOpcodeRefused : Prop :=
  ∀ s op rest, s.resets.headD .no = .no → s.hung = false → s.ctrl = none → s.port = op :: rest →
    (op.toNat = 0 ∨ 10 ≤ op.toNat) →
    step s = .next
      { s with
        port := rest, resets := s.resets.tail
        record := s.record ++ [.response ⟨.illegalOperation, []⟩] }

/-- R77: reserved bits of a mode byte and `len = 0` end with ILLEGAL_OPERAND in every state, before any other check and any
transaction; no other operand value does. -/
def Obligations.ReservedOperandRefused : Prop :=
  (∀ b a w c (mode : Byte) s, mode >>> 2 ≠ 0#8 →
    exec (.openSensor b a w c mode) s =
      .next { s with record := s.record ++ [.response ⟨.illegalOperand, []⟩] }) ∧
  (∀ up b5 (mode : Byte) s, mode >>> 2 ≠ 0#8 →
    exec (.compp up b5 mode) s =
      .next { s with record := s.record ++ [.response ⟨.illegalOperand, []⟩] }) ∧
  (∀ reg s,
    exec (.rdb reg 0#8) s =
      .next { s with record := s.record ++ [.response ⟨.illegalOperand, []⟩] }) ∧
  (∀ i s t es, i.WellFormed = true → exec i s = .next t → t.record = s.record ++ es →
    ∀ r ∈ responsesOf es, r.status ≠ .illegalOperand)

/-! ### The operations -/

/-- R100: OPEN, in each way it can end. -/
def Obligations.OpenConstructsSensor : Prop :=
  ∀ b a w c mode s,
    (4 ≤ mode.toNat →
      exec (.openSensor b a w c mode) s =
        .next { s with record := s.record ++ [.response ⟨.illegalOperand, []⟩] }) ∧
    (mode.toNat ≤ 3 → s.opened = true →
      exec (.openSensor b a w c mode) s =
        .next { s with record := s.record ++ [.response ⟨.alreadyOpen, []⟩] }) ∧
    (mode.toNat ≤ 3 → s.opened = false → ∀ rest, s.answers = .reply .ioError :: rest →
      exec (.openSensor b a w c mode) s =
        .next { s with
          answers := rest
          record := s.record ++ [.busOpen b a w c .ioError, .response ⟨.ioError, []⟩] }) ∧
    (mode.toNat ≤ 3 → s.opened = false → ∀ bs rest, s.answers = .reply (.ok bs) :: rest →
      exec (.openSensor b a w c mode) s =
        .next { s with
          hBusId := b, hDevAddr := a, hAddrBits := w, hClockHz := c
          oss := BitVec.ofNat 2 mode.toNat
          opened := true, cal := none, b5 := none
          answers := rest
          record := s.record ++ [.busOpen b a w c (.ok []), .wait .settle, .response ⟨.ok, []⟩] })

/-- R101: CLOSE always ends OK; BusClose only if a handle was open; store, handle fields and OSS stay. -/
def Obligations.CloseReleasesTransport : Prop :=
  ∀ s, exec .closeSensor s =
    .next { s with
      opened := false, b5 := none
      record := s.record ++ (if s.opened then [.busClose] else []) ++ [.response ⟨.ok, []⟩] }

/-- R102: WRB, in each way it can end. -/
def Obligations.WriteByteOperation : Prop :=
  ∀ reg val s,
    (s.opened = false →
      exec (.wrb reg val) s = .next { s with record := s.record ++ [.response ⟨.closed, []⟩] }) ∧
    (s.opened = true → ∀ rest, s.answers = .reply .ioError :: rest →
      exec (.wrb reg val) s =
        .next { s with
          answers := rest
          record := s.record ++ [.write reg val .ioError, .response ⟨.ioError, []⟩] }) ∧
    (s.opened = true → ∀ bs rest, s.answers = .reply (.ok bs) :: rest →
      exec (.wrb reg val) s =
        .next { s with
          answers := rest
          record := s.record ++ [.write reg val (.ok []), .response ⟨.ok, []⟩] })

/-- R103: RDB, in each way it can end; a short read's bytes are not returned. -/
def Obligations.ReadBytesOperation : Prop :=
  ∀ reg len s,
    (len.toNat = 0 →
      exec (.rdb reg len) s =
        .next { s with record := s.record ++ [.response ⟨.illegalOperand, []⟩] }) ∧
    (len.toNat ≠ 0 → s.opened = false →
      exec (.rdb reg len) s = .next { s with record := s.record ++ [.response ⟨.closed, []⟩] }) ∧
    (len.toNat ≠ 0 → s.opened = true → ∀ rest, s.answers = .reply .ioError :: rest →
      exec (.rdb reg len) s =
        .next { s with
          answers := rest
          record := s.record ++ [.read reg len.toNat .ioError, .response ⟨.ioError, []⟩] }) ∧
    (s.opened = true → ∀ bs rest, s.answers = .reply (.ok bs) :: rest → bs.length < len.toNat →
      exec (.rdb reg len) s =
        .next { s with
          answers := rest
          record := s.record ++
            [.read reg len.toNat (.ok bs), .response ⟨.insufficientData, []⟩] }) ∧
    (len.toNat ≠ 0 → s.opened = true → ∀ bs rest, s.answers = .reply (.ok bs) :: rest →
      bs.length = len.toNat →
      exec (.rdb reg len) s =
        .next { s with
          answers := rest
          record := s.record ++ [.read reg len.toNat (.ok bs), .response ⟨.ok, bs⟩] })

/-- R115: LDCAL, in each way it can end; the eleven coefficients at once or nothing. -/
def Obligations.LoadCalibration : Prop :=
  ∀ s,
    (s.opened = false →
      exec .ldcal s = .next { s with record := s.record ++ [.response ⟨.closed, []⟩] }) ∧
    (s.opened = true → s.cal ≠ none →
      exec .ldcal s = .next { s with record := s.record ++ [.response ⟨.calLocked, []⟩] }) ∧
    (s.opened = true → s.cal = none → ∀ rest, s.answers = .reply .ioError :: rest →
      exec .ldcal s =
        .next { s with
          answers := rest
          record := s.record ++ [.read 0xAA#8 22 .ioError, .response ⟨.ioError, []⟩] }) ∧
    (s.opened = true → s.cal = none → ∀ bs rest, s.answers = .reply (.ok bs) :: rest →
      bs.length < 22 →
      exec .ldcal s =
        .next { s with
          answers := rest
          record := s.record ++ [.read 0xAA#8 22 (.ok bs), .response ⟨.insufficientData, []⟩] }) ∧
    (s.opened = true → s.cal = none → ∀ bs rest, s.answers = .reply (.ok bs) :: rest →
      bs.length = 22 →
      exec .ldcal s =
        .next { s with
          cal := some (decodeCal bs)
          answers := rest
          record := s.record ++
            [.read 0xAA#8 22 (.ok bs), .response ⟨.ok, payloadCal (decodeCal bs)⟩] })

/-- R162: MEAST, in each way it can end. -/
def Obligations.TemperaturePath : Prop :=
  ∀ s,
    (s.opened = false →
      exec .meast s = .next { s with record := s.record ++ [.response ⟨.closed, []⟩] }) ∧
    (s.opened = true → s.cal = none →
      exec .meast s = .next { s with record := s.record ++ [.response ⟨.uncalibrated, []⟩] }) ∧
    (s.opened = true → ∀ c, s.cal = some c →
      (∀ rest, s.answers = .reply .ioError :: rest →
        exec .meast s =
          .next { s with
            b5 := none, answers := rest
            record := s.record ++ [.write 0xF4#8 0x2E#8 .ioError, .response ⟨.ioError, []⟩] }) ∧
      (∀ w rest, s.answers = .reply (.ok w) :: .reply .ioError :: rest →
        exec .meast s =
          .next { s with
            b5 := none, answers := rest
            record := s.record ++
              [.write 0xF4#8 0x2E#8 (.ok []), .wait .temp, .read 0xF6#8 2 .ioError,
                .response ⟨.ioError, []⟩] }) ∧
      (∀ w bs rest, s.answers = .reply (.ok w) :: .reply (.ok bs) :: rest → bs.length < 2 →
        exec .meast s =
          .next { s with
            b5 := none, answers := rest
            record := s.record ++
              [.write 0xF4#8 0x2E#8 (.ok []), .wait .temp, .read 0xF6#8 2 (.ok bs),
                .response ⟨.insufficientData, []⟩] }) ∧
      (∀ w hi lo rest, s.answers = .reply (.ok w) :: .reply (.ok [hi, lo]) :: rest →
        computeTemperature (hi ++ lo) c = none →
        exec .meast s =
          .next { s with
            b5 := none, answers := rest
            record := s.record ++
              [.write 0xF4#8 0x2E#8 (.ok []), .wait .temp, .read 0xF6#8 2 (.ok [hi, lo]),
                .response ⟨.divideByZero, []⟩] }) ∧
      (∀ w hi lo rest t10 b5, s.answers = .reply (.ok w) :: .reply (.ok [hi, lo]) :: rest →
        computeTemperature (hi ++ lo) c = some (t10, b5) →
        exec .meast s =
          .next { s with
            b5 := some b5, answers := rest
            record := s.record ++
              [.write 0xF4#8 0x2E#8 (.ok []), .wait .temp, .read 0xF6#8 2 (.ok [hi, lo]),
                .response ⟨.ok, bytes32 t10 ++ bytes32 b5 ++ [hi, lo]⟩] }))

/-- R163: MEASP, in each way it can end; the latch is consumed as soon as the entry checks pass. -/
def Obligations.PressurePath : Prop :=
  ∀ s,
    (s.opened = false →
      exec .measp s = .next { s with record := s.record ++ [.response ⟨.closed, []⟩] }) ∧
    (s.opened = true → s.cal = none →
      exec .measp s = .next { s with record := s.record ++ [.response ⟨.uncalibrated, []⟩] }) ∧
    (s.opened = true → s.cal ≠ none → s.b5 = none →
      exec .measp s = .next { s with record := s.record ++ [.response ⟨.missingDependency, []⟩] }) ∧
    (s.opened = true → ∀ c b5, s.cal = some c → s.b5 = some b5 →
      let cmd : Byte := BitVec.ofNat 8 (0x34 + 64 * s.oss.toNat)
      (∀ rest, s.answers = .reply .ioError :: rest →
        exec .measp s =
          .next { s with
            b5 := none, answers := rest
            record := s.record ++ [.write 0xF4#8 cmd .ioError, .response ⟨.ioError, []⟩] }) ∧
      (∀ w rest, s.answers = .reply (.ok w) :: .reply .ioError :: rest →
        exec .measp s =
          .next { s with
            b5 := none, answers := rest
            record := s.record ++
              [.write 0xF4#8 cmd (.ok []), .wait (.delay s.oss), .read 0xF6#8 3 .ioError,
                .response ⟨.ioError, []⟩] }) ∧
      (∀ w bs rest, s.answers = .reply (.ok w) :: .reply (.ok bs) :: rest → bs.length < 3 →
        exec .measp s =
          .next { s with
            b5 := none, answers := rest
            record := s.record ++
              [.write 0xF4#8 cmd (.ok []), .wait (.delay s.oss), .read 0xF6#8 3 (.ok bs),
                .response ⟨.insufficientData, []⟩] }) ∧
      (∀ w b0 b1 b2 rest, s.answers = .reply (.ok w) :: .reply (.ok [b0, b1, b2]) :: rest →
        computePressure (decodeUP [b0, b1, b2] s.oss) b5 c s.oss = none →
        exec .measp s =
          .next { s with
            b5 := none, answers := rest
            record := s.record ++
              [.write 0xF4#8 cmd (.ok []), .wait (.delay s.oss), .read 0xF6#8 3 (.ok [b0, b1, b2]),
                .response ⟨.divideByZero, []⟩] }) ∧
      (∀ w b0 b1 b2 rest pa hPa, s.answers = .reply (.ok w) :: .reply (.ok [b0, b1, b2]) :: rest →
        computePressure (decodeUP [b0, b1, b2] s.oss) b5 c s.oss = some (pa, hPa) →
        exec .measp s =
          .next { s with
            b5 := none, answers := rest
            record := s.record ++
              [.write 0xF4#8 cmd (.ok []), .wait (.delay s.oss), .read 0xF6#8 3 (.ok [b0, b1, b2]),
                .response ⟨.ok, bytes32 pa ++ bytes32 hPa ++ bytes32 (decodeUP [b0, b1, b2] s.oss)⟩] }))

/-- R142: COMPT; its result depends on the store and the operand alone, and it writes nothing. -/
def Obligations.TemperatureOnOperand : Prop :=
  ∀ ut s,
    (s.cal = none →
      exec (.compt ut) s = .next { s with record := s.record ++ [.response ⟨.uncalibrated, []⟩] }) ∧
    (∀ c, s.cal = some c → computeTemperature ut c = none →
      exec (.compt ut) s = .next { s with record := s.record ++ [.response ⟨.divideByZero, []⟩] }) ∧
    (∀ c t10 b5, s.cal = some c → computeTemperature ut c = some (t10, b5) →
      exec (.compt ut) s =
        .next { s with record := s.record ++ [.response ⟨.ok, bytes32 t10 ++ bytes32 b5⟩] })

/-- R143: COMPP; it neither reads nor clears the latch and does not read OSS. -/
def Obligations.PressureOnOperands : Prop :=
  ∀ up b5 mode s,
    (4 ≤ mode.toNat →
      exec (.compp up b5 mode) s =
        .next { s with record := s.record ++ [.response ⟨.illegalOperand, []⟩] }) ∧
    (mode.toNat ≤ 3 → s.cal = none →
      exec (.compp up b5 mode) s =
        .next { s with record := s.record ++ [.response ⟨.uncalibrated, []⟩] }) ∧
    (mode.toNat ≤ 3 → ∀ c, s.cal = some c →
      computePressure up b5 c (BitVec.ofNat 2 mode.toNat) = none →
      exec (.compp up b5 mode) s =
        .next { s with record := s.record ++ [.response ⟨.divideByZero, []⟩] }) ∧
    (mode.toNat ≤ 3 → ∀ c pa hPa, s.cal = some c →
      computePressure up b5 c (BitVec.ofNat 2 mode.toNat) = some (pa, hPa) →
      exec (.compp up b5 mode) s =
        .next { s with record := s.record ++ [.response ⟨.ok, bytes32 pa ++ bytes32 hPa⟩] })

/-- The rows of kind "emitted" (R78, R79): one write of the command's byte to the control register while the handle is open, and
nothing while it is closed. That the emission stands alone is the model's choice (log 9). -/
def Obligations.CommandsWriteTheControlRegister : Prop :=
  ∀ s,
    (∀ oss, s.opened = false → exec .cmdTemp s = .next s ∧ exec (.cmdPres oss) s = .next s) ∧
    (s.opened = true → ∀ r rest, s.answers = .reply r :: rest →
      exec .cmdTemp s =
        .next { s with
          answers := rest
          record := s.record ++ [.write 0xF4#8 0x2E#8 (if r = .ioError then .ioError else .ok [])] }) ∧
    (s.opened = true → ∀ oss r rest, s.answers = .reply r :: rest →
      exec (.cmdPres oss) s =
        .next { s with
          answers := rest
          record := s.record ++
            [.write 0xF4#8 (BitVec.ofNat 8 (0x34 + 64 * oss.toNat))
              (if r = .ioError then .ioError else .ok [])] })

/-- R167: the bus record and the two responses of a full acquisition cycle with no failure; and a MEAST that divides by zero is not
followed by a MEASP (R81). -/
def Obligations.AcquisitionCycleRecord : Prop :=
  ∀ s c w hi lo rest, s.opened = true → s.cal = some c →
    (∀ w' b0 b1 b2 t10 b5 pa hPa,
      s.answers = .reply (.ok w) :: .reply (.ok [hi, lo]) :: .reply (.ok w') ::
        .reply (.ok [b0, b1, b2]) :: rest →
      computeTemperature (hi ++ lo) c = some (t10, b5) →
      computePressure (decodeUP [b0, b1, b2] s.oss) b5 c s.oss = some (pa, hPa) →
      ∃ t es, acquire s = .next t ∧ t.record = s.record ++ es ∧ t.regs = { s.regs with b5 := none } ∧
        busOf es =
          [.write 0xF4#8 0x2E#8 (.ok []), .wait .temp, .read 0xF6#8 2 (.ok [hi, lo]),
            .write 0xF4#8 (commandByte (.pressure s.oss)) (.ok []), .wait (.delay s.oss),
            .read 0xF6#8 3 (.ok [b0, b1, b2])] ∧
        responsesOf es =
          [⟨.ok, payloadMeast t10 b5 (hi ++ lo)⟩,
            ⟨.ok, payloadMeasp pa hPa (decodeUP [b0, b1, b2] s.oss)⟩]) ∧
    (s.answers = .reply (.ok w) :: .reply (.ok [hi, lo]) :: rest →
      computeTemperature (hi ++ lo) c = none → acquire s = exec .meast s)

/-! ### The engine -/

/-- R6: the primitives that wrap are the 32-bit operations, and `asr32` copies the sign bit. -/
def Obligations.EnginePrimitivesWrap : Prop :=
  ∀ a b : I32,
    add32 a b = a + b ∧ sub32 a b = a - b ∧ mul32 a b = a * b ∧
    ∀ n, n ≤ 31 → shl32 a n = a <<< n ∧ asr32 a n = a.sshiftRight n

/-- R7: the two divisions as exact quotients rounded down (the signed one wraps in one case only), and signed division by a
positive power of two as the arithmetic shift. -/
def Obligations.DivisionPrimitives : Prop :=
  (∀ a b : I32, b ≠ 0#32 → ¬ (a.toInt = -2147483648 ∧ b.toInt = -1) →
    (sdiv32 a b).toInt = Int.fdiv a.toInt b.toInt) ∧
  sdiv32 (-2147483648#32) (-1#32) = -2147483648#32 ∧
  (∀ a b : I32, b ≠ 0#32 → (udiv32 a b).toNat = a.toNat / b.toNat) ∧
  (∀ (a : I32) (n : Nat), n ≤ 30 → sdiv32 a (BitVec.ofNat 32 (2 ^ n)) = asr32 a n)

/-- R135: the temperature function, in bit vector arithmetic. -/
def Obligations.TemperatureFunction : Prop :=
  ∀ (ut : Half) (c : Coeffs),
    let x1 : I32 := ((ut.setWidth 32 - c.ac6) * c.ac5).sshiftRight 15
    let d : I32 := x1 + c.md
    (d = 0#32 → computeTemperature ut c = none) ∧
    (d ≠ 0#32 →
      let b5 : I32 := x1 + BitVec.ofInt 32 (Int.fdiv (c.mc <<< 11).toInt d.toInt)
      computeTemperature ut c = some ((b5 + 8).sshiftRight 4, b5))

/-- R135: with coefficients in their ranges only the product `m0` can wrap; every other step is the exact integer, in the range
the rule gives. -/
def Obligations.TemperatureStepsDoNotWrap : Prop :=
  ∀ (ut : Half) (c : Coeffs), c.InRange →
    let d0 := sub32 (ut.setWidth 32) c.ac6
    let x1 := tempX1 ut c
    d0.toInt = (ut.toNat : Int) - c.ac6.toInt ∧ -65535 ≤ d0.toInt ∧ d0.toInt ≤ 65535 ∧
    -65536 ≤ x1.toInt ∧ x1.toInt ≤ 65535 ∧
    (tempNumerator c).toInt = c.mc.toInt * 2048 ∧
    (tempDivisor ut c).toInt = x1.toInt + c.md.toInt ∧
    (∀ t10 b5, computeTemperature ut c = some (t10, b5) →
      b5.toInt = x1.toInt + Int.fdiv (c.mc.toInt * 2048) (x1.toInt + c.md.toInt) ∧
      t10.toInt = Int.fdiv (b5.toInt + 8) 16)

/-- R137: the pressure function, in bit vector arithmetic. -/
def Obligations.PressureFunction : Prop :=
  ∀ (up b5 : I32) (c : Coeffs) (oss : Oss),
    let b6 := b5 - 4000#32
    let q := (b6 * b6).sshiftRight 12
    let x3a := (c.b2 * q).sshiftRight 11 + (c.ac2 * b6).sshiftRight 11
    let b3 := (((c.ac1 * 4#32 + x3a) <<< oss.toNat) + 2#32).sshiftRight 2
    let x3b := ((c.ac3 * b6).sshiftRight 13 + (c.b1 * q).sshiftRight 16 + 2#32).sshiftRight 2
    let b4 := (c.ac4 * (x3b + 32768#32)).sshiftRight 15
    let b7 := (up - b3) * BitVec.ofNat 32 (50000 / 2 ^ oss.toNat)
    let p0 := if b7.toNat < 2 ^ 31 then (b7 * 2#32) / b4 else (b7 / b4) * 2#32
    let h := p0.sshiftRight 8
    let x1d := (h * h * 3038#32).sshiftRight 16
    let x2c := (-7357#32 * p0).sshiftRight 16
    let pa := p0 + (x1d + x2c + 3791#32).sshiftRight 4
    (b4 = 0#32 → computePressure up b5 c oss = none) ∧
    (b4 ≠ 0#32 →
      computePressure up b5 c oss = some (pa, BitVec.ofInt 32 (Int.fdiv pa.toInt 100)))

/-- R138: the Pa step, in natural numbers; the first arm loses nothing, the second wraps only when `u32(B4) = 1`. -/
def Obligations.PaStepUnsigned : Prop :=
  ∀ b7 b4 : I32, b4 ≠ 0#32 →
    (b7.toNat < 2 ^ 31 → (paStep b7 b4).toNat = 2 * b7.toNat / b4.toNat) ∧
    (2 ^ 31 ≤ b7.toNat → (paStep b7 b4).toNat = 2 * (b7.toNat / b4.toNat) % 2 ^ 32) ∧
    (2 ^ 31 ≤ b7.toNat → b4.toNat ≠ 1 → (paStep b7 b4).toNat = 2 * (b7.toNat / b4.toNat))

/-- R140: a zero divisor yields no result, and the operation that meets it ends with DIVIDE_BY_ZERO and changes nothing; it is
reachable with legal coefficients. -/
def Obligations.ZeroDivisorHasNoResult : Prop :=
  (∀ ut c s, s.cal = some c → tempDivisor ut c = 0#32 →
    exec (.compt ut) s = .next { s with record := s.record ++ [.response ⟨.divideByZero, []⟩] }) ∧
  (∀ up b5 mode c s, mode.toNat ≤ 3 → s.cal = some c → presB4 c (presB6 b5) = 0#32 →
    exec (.compp up b5 mode) s =
      .next { s with record := s.record ++ [.response ⟨.divideByZero, []⟩] }) ∧
  (∀ ut (c : Coeffs), c.ac5 = 0#32 → c.md = 0#32 → tempDivisor ut c = 0#32) ∧
  (∀ b6 (c : Coeffs), c.ac4 = 0#32 ∨ presX3b c b6 = -32768#32 → presB4 c b6 = 0#32)

/-- R111, R112, R114: the eleven fields in order, three of them unsigned; every result is in its range. -/
def Obligations.CalibrationDecode : Prop :=
  ∀ c0 c1 c2 c3 c4 c5 c6 c7 c8 c9 c10 c11 c12 c13 c14 c15 c16 c17 c18 c19 c20 c21 : Byte,
    let pair (hi lo : Byte) : Int := hi.toNat * 256 + lo.toNat
    let signed (hi lo : Byte) : Int := if hi.toNat < 0x80 then pair hi lo else pair hi lo - 65536
    let c := decodeCal [c0, c1, c2, c3, c4, c5, c6, c7, c8, c9, c10, c11, c12, c13, c14, c15, c16,
      c17, c18, c19, c20, c21]
    c.ac1.toInt = signed c0 c1 ∧ c.ac2.toInt = signed c2 c3 ∧ c.ac3.toInt = signed c4 c5 ∧
    c.ac4.toInt = pair c6 c7 ∧ c.ac5.toInt = pair c8 c9 ∧ c.ac6.toInt = pair c10 c11 ∧
    c.b1.toInt = signed c12 c13 ∧ c.b2.toInt = signed c14 c15 ∧ c.mb.toInt = signed c16 c17 ∧
    c.mc.toInt = signed c18 c19 ∧ c.md.toInt = signed c20 c21 ∧ c.InRange

/-- R160, R161: the raw readings, big-endian and unsigned; the pressure reading has `16 + oss` significant bits and at `oss = 0`
the third byte has no effect. -/
def Obligations.RawReadingDecode : Prop :=
  (∀ hi lo : Byte, (decodeUT [hi, lo]).toNat = hi.toNat * 256 + lo.toNat) ∧
  (∀ (b0 b1 b2 : Byte) (oss : Oss),
    (decodeUP [b0, b1, b2] oss).toInt =
      (b0.toNat * 65536 + b1.toNat * 256 + b2.toNat : Int) / 2 ^ (8 - oss.toNat) ∧
    (decodeUP [b0, b1, b2] oss).toNat < 2 ^ (16 + oss.toNat)) ∧
  (∀ b0 b1 b2 b2' : Byte, decodeUP [b0, b1, b2] 0 = decodeUP [b0, b1, b2'] 0)

/-- R122: `DELAY_MS[0] <= DELAY_MS[1] <= DELAY_MS[2] <= DELAY_MS[3]`, whatever the four lengths are. -/
def Obligations.DelaysDoNotDecrease : Prop :=
  ∀ a b : Oss, a.toNat ≤ b.toNat → waitMs (.delay a) ≤ waitMs (.delay b)

/-! ### Statuses, responses, the record -/

/-- R183, checks 2 to 5: the first entry check that fails ends the request with its status; no transaction is issued and no state
changes. -/
def Obligations.EntryCheckChangesNothing : Prop :=
  ∀ i s st, entryStatus i s = some st →
    exec i s = .next { s with record := s.record ++ [.response ⟨st, []⟩] }

/-- R181: an operation ends with no status outside its row of the table of causes, and an error's response is the status alone. -/
def Obligations.StatusesStayInTheCauseTable : Prop :=
  ∀ i s t es, exec i s = .next t → t.record = s.record ++ es →
    ∀ r ∈ responsesOf es,
      (r.status = .ok ∨ r.status ∈ causes i) ∧ (r.status ≠ .ok → responseBytes r = [statusCode r.status])

/-- R75: the payload of an OK response has the length the table gives the operation. -/
def Obligations.PayloadLengthOnOk : Prop :=
  ∀ i s t es, exec i s = .next t → t.record = s.record ++ es →
    ∀ r ∈ responsesOf es, r.status = .ok → r.payload.length = payloadLength i

/-- R9 with R192: a request ends in exactly one response, its last event, unless the transport never answers; then it ends in
none. (A reset that abandons it leaves none either: ResetAbandonsOperation.) That an emitted command, run alone, ends in
none is the model's choice (log 9). -/
def Obligations.ExactlyOneResponse : Prop :=
  ∀ i s t, exec i s = .next t →
    ∃ es, t.record = s.record ++ es ∧
      ((i.isRequest = true ∧ ∃ bus r, es = bus ++ [.response r] ∧ responsesOf bus = []) ∨
        (i.isRequest = false ∧ responsesOf es = []) ∨
        (t.hung = true ∧ Answer.never ∈ s.answers ∧ responsesOf es = []))

/-- R192: every request reaches a response, whatever the answers, if the transport answers each transaction; if it never answers,
the operation ends in no response, the block accepts nothing further, and reset ends it. -/
def Obligations.HangOnlyWhenTransportIsSilent : Prop :=
  (∀ i s, i.isRequest = true → (∀ a ∈ s.answers, ∃ r, a = .reply r) →
    ∃ t bus r, exec i s = .next t ∧ t.hung = s.hung ∧
      t.record = s.record ++ bus ++ [.response r] ∧ responsesOf bus = []) ∧
  (∀ i s e rest, firstTransaction i s .unanswered = some e → entryStatus i s = none → s.answers = .never :: rest →
    ∃ t, exec i s = .next t ∧ t.hung = true ∧ t.record = s.record ++ [e] ∧ t.answers = rest) ∧
  (∀ i s bs rest, i = .meast ∨ i = .measp → entryStatus i s = none →
    s.answers = .reply (.ok bs) :: .never :: rest →
    ∃ t es, exec i s = .next t ∧ t.hung = true ∧ t.record = s.record ++ es ∧ responsesOf es = []) ∧
  (∀ s, s.hung = true → s.resets.headD .no ≠ .now → step s = .fault .transportSilent) ∧
  (∀ s, s.hung = true → s.resets.headD .no = .now → ∃ t, step s = .next t ∧ t.hung = false ∧ t.InReset)

/-- R185 and R11: a request is judged on the registers of R20 alone. Two blocks with the same registers and the same
environment's answers issue the same transactions and give the same response, whatever either has done before. -/
def Obligations.RequestJudgedOnRegistersAlone : Prop :=
  ∀ i s s', s'.regs = s.regs → s'.answers = s.answers → s'.draws = s.draws →
    ∃ t t' es, exec i s = .next t ∧ exec i s' = .next t' ∧ t'.regs = t.regs ∧
      t.record = s.record ++ es ∧ t'.record = s'.record ++ es

/-- R184 (b): what has been recorded is never undone, by any step. -/
def Obligations.RecordOnlyGrows : Prop :=
  ∀ s t, step s = .next t → s.record <+: t.record

/-- Every step keeps the record lawful: no failed operation gives a payload (R74, R193), no read delivers more than it asked for
(R53), no read asks for 0 or more than 255 bytes. -/
def Obligations.StepKeepsRecordLawful : Prop :=
  ∀ s t, s.RecordLawful → step s = .next t → t.RecordLawful

/-- An operation writes no sub-register but the one it names: WRB its operand, the sequencer the control register (R102, R168). -/
def Obligations.OnlyNamedSubRegistersWritten : Prop :=
  ∀ i s t es, exec i s = .next t → t.record = s.record ++ es →
    ∀ addr val r, Event.write addr val r ∈ es → mayWrite i s addr val

/-! ### The registers -/

/-- R28, I1 and I2 (I3 holds by the type of OSS): kept by every step. -/
def Obligations.StepKeepsInvariant : Prop :=
  ∀ s t, s.Inv → step s = .next t → t.Inv

/-- R28: the invariant and the lawful record hold after reset. -/
def Obligations.ResetMeetsInvariants : Prop :=
  State.reset.Inv ∧ State.reset.RecordLawful

/-- R27: what sets and what clears the latch. -/
def Obligations.LatchSetOnlyByTemperaturePath : Prop :=
  (∀ i s t v, exec i s = .next t → t.b5 = some v →
    s.b5 = some v ∨
    (i = .meast ∧ ∃ c ut t10, s.cal = some c ∧ computeTemperature ut c = some (t10, v) ∧
      t.record.getLast? = some (.response ⟨.ok, payloadMeast t10 v ut⟩))) ∧
  (∀ s : State, s.applyReset.b5 = none) ∧
  (∀ (s : State) n o bus, (s.abandon n o bus).b5 = none) ∧
  (∀ i s t, exec i s = .next t → s.opened = false → t.opened = true → t.b5 = none) ∧
  (∀ s t, exec .closeSensor s = .next t → t.b5 = none) ∧
  (∀ s t v, entryStatus .meast s = none → exec .meast s = .next t → t.b5 = some v →
    ∃ p, t.record.getLast? = some (.response ⟨.ok, p⟩)) ∧
  (∀ s t, entryStatus .measp s = none → exec .measp s = .next t → t.b5 = none)

/-- R26: populated coefficients do not change but by a successful OPEN or a reset. -/
def Obligations.StoreIsImmutable : Prop :=
  (∀ i s t c, exec i s = .next t → s.cal = some c →
    t.cal = some c ∨
    (∃ b a w k m, i = .openSensor b a w k m ∧ s.opened = false ∧ t.opened = true ∧ t.cal = none)) ∧
  (∀ s t c, step s = .next t → s.cal = some c →
    t.cal = some c ∨ (s.opened = false ∧ t.opened = true ∧ t.cal = none) ∨
    (t.InReset ∧ s.resets.headD .no ≠ .no))

/-- R21, R23, R124: while a handle is open no step changes the handle fields or OSS, but one that resets the block. -/
def Obligations.HandleFixedWhileOpen : Prop :=
  ∀ s t, step s = .next t → s.opened = true →
    (t.hBusId = s.hBusId ∧ t.hDevAddr = s.hDevAddr ∧ t.hAddrBits = s.hAddrBits ∧
      t.hClockHz = s.hClockHz ∧ t.oss = s.oss) ∨
    (t.InReset ∧ s.resets.headD .no ≠ .no)

/-- Frame of WRB, RDB, COMPT and COMPP (R36) and of CMD_TEMP and CMD_PRES: no register of the block changes. R36 has no row for the
two emitted bytes; that each is an instruction of its own, and then writes no register (R20 names no operation but the nine
as a writer), is the model's choice (log 9). -/
def Obligations.FrameOfOperationsWithoutState : Prop :=
  ∀ i s t,
    ((∃ r v, i = .wrb r v) ∨ (∃ r n, i = .rdb r n) ∨ (∃ u, i = .compt u) ∨ (∃ p f m, i = .compp p f m) ∨
      i = .cmdTemp ∨ ∃ o, i = .cmdPres o) →
    exec i s = .next t → t.regs = s.regs ∧ EnvFrame s t

/-- Frame of MEAST and MEASP (R36): only the latch changes. -/
def Obligations.FrameOfMeasurements : Prop :=
  ∀ i s t, i = .meast ∨ i = .measp → exec i s = .next t →
    t.regs = { s.regs with b5 := t.b5 } ∧ EnvFrame s t

/-- Frame of LDCAL (R36): only the store changes, and only from absent to whole, with status OK. -/
def Obligations.FrameOfLoad : Prop :=
  ∀ s t, exec .ldcal s = .next t →
    EnvFrame s t ∧
    (t.regs = s.regs ∨
      ∃ bs, s.cal = none ∧ bs.length = 22 ∧ t.regs = { s.regs with cal := some (decodeCal bs) } ∧
        t.record.getLast? = some (.response ⟨.ok, payloadCal (decodeCal bs)⟩))

/-- Frame of OPEN and CLOSE (R36): a successful OPEN writes the handle, OSS and the three flags, any other OPEN nothing; CLOSE writes
`OPENED` and `B5_VALID`. -/
def Obligations.FrameOfOpenAndClose : Prop :=
  (∀ b a w c m s t, exec (.openSensor b a w c m) s = .next t →
    EnvFrame s t ∧
    (t.regs = s.regs ∨
      (s.opened = false ∧ t.regs = ⟨true, b, a, w, c, BitVec.ofNat 2 m.toNat, none, none⟩ ∧
        t.record.getLast? = some (.response ⟨.ok, []⟩)))) ∧
  (∀ s t, exec .closeSensor s = .next t →
    EnvFrame s t ∧ t.answers = s.answers ∧ t.regs = { s.regs with opened := false, b5 := none })

/-! ### Reset -/

/-- R35: what the spec gives the state after reset. -/
def Obligations.StateAfterReset : Prop :=
  State.reset.InReset ∧ State.reset.record = []

/-- R210: a reset between operations, in any state: the state of R35, no bus transaction, no response; it ends a hang. What the
host and the transport have still to present stays (the model's choice, log 6). -/
def Obligations.ResetInput : Prop :=
  ∀ s rs, s.resets = .now :: rs →
    ∃ t, step s = .next t ∧ t.InReset ∧ t.record = s.record ∧ t.resets = rs ∧ t.hung = false ∧
      t.port = s.port ∧ t.answers = s.answers

/-- R211: a reset that arrives while an operation is running abandons it, whatever the operation and the moment: the reset state,
its bus events up to the moment stay on record, no response is given. That the moment is counted in bus events is the
model's choice (log 6); an emitted command is one too (log 9). -/
def Obligations.ResetAbandonsOperation : Prop :=
  ∀ s n o rs, s.resets = .during n o :: rs → s.hung = false →
    (∀ i rest u es, s.ctrl = none →
      (decode s.port = .operation i rest ∨ decode s.port = .illegalOperand i rest) →
      exec i { s with port := rest, resets := rs } = .next u → u.record = s.record ++ es →
      ∃ t, step s = .next t ∧ s.AbandonedTo t rest (happened n o (busOf es)) (answersTaken ((busOf es).take n)) ∧
        responsesOf (happened n o (busOf es)) = []) ∧
    (∀ op rest, s.ctrl = none → decode s.port = .illegalOperation op rest →
      ∃ t, step s = .next t ∧ s.AbandonedTo t rest [] 0) ∧
    (∀ c u es, s.ctrl = some c → exec c.instr { s with ctrl := none, resets := rs } = .next u →
      u.record = s.record ++ es →
      ∃ t, step s = .next t ∧
        s.AbandonedTo t s.port (happened n o (busOf es)) (answersTaken ((busOf es).take n)) ∧
        responsesOf (happened n o (busOf es)) = [])

/-- R211 and R220, moment by moment, on the request that starts. Before it has done anything, for every operation; while its first
transaction is outstanding; after the last transaction and before the response, also in CLOSE, WRB, RDB and LDCAL; in COMPT
and COMPP, which have no transaction; before, in and after the wait of OPEN, MEAST and MEASP. What the transport would have
answered later does not matter. -/
def Obligations.ResetAtEachMoment : Prop :=
  ∀ s i rest n o rs, s.Starts i rest → s.resets = .during n o :: rs →
    ∃ t, step s = .next t ∧
      (n = 0 → o = false → s.AbandonedTo t rest [] 0) ∧
      (n = 0 → o = true → ∀ e, firstTransaction i s .unanswered = some e → entryStatus i s = none →
        s.AbandonedTo t rest [e] 0) ∧
      (i = .closeSensor → s.opened = true → 1 ≤ n → s.AbandonedTo t rest [.busClose] 0) ∧
      (((∃ u, i = .compt u) ∨ ∃ p f m, i = .compp p f m) → s.AbandonedTo t rest [] 0) ∧
      (∀ b a w c m bs more, i = .openSensor b a w c m → entryStatus i s = none →
        s.answers = .reply (.ok bs) :: more →
        (n = 1 → s.AbandonedTo t rest [.busOpen b a w c (.ok [])] 1) ∧
        (2 ≤ n → s.AbandonedTo t rest [.busOpen b a w c (.ok []), .wait .settle] 1)) ∧
      (∀ reg val bs more, i = .wrb reg val → entryStatus i s = none → s.answers = .reply (.ok bs) :: more →
        1 ≤ n → s.AbandonedTo t rest [.write reg val (.ok [])] 1) ∧
      (∀ reg len bs more, i = .rdb reg len → entryStatus i s = none → s.answers = .reply (.ok bs) :: more →
        bs.length ≤ len.toNat → 1 ≤ n → s.AbandonedTo t rest [.read reg len.toNat (.ok bs)] 1) ∧
      (∀ bs more, i = .ldcal → entryStatus i s = none → s.answers = .reply (.ok bs) :: more →
        bs.length ≤ 22 → 1 ≤ n → s.AbandonedTo t rest [.read 0xAA#8 22 (.ok bs)] 1) ∧
      (∀ w more, i = .meast → entryStatus i s = none → s.answers = .reply (.ok w) :: more →
        (n = 1 → s.AbandonedTo t rest [.write 0xF4#8 0x2E#8 (.ok [])] 1) ∧
        (n = 2 → s.AbandonedTo t rest ([.write 0xF4#8 0x2E#8 (.ok []), .wait .temp] ++
          if o then [.read 0xF6#8 2 .unanswered] else []) 1) ∧
        (∀ bs more', more = .reply (.ok bs) :: more' → bs.length ≤ 2 → 3 ≤ n →
          s.AbandonedTo t rest
            [.write 0xF4#8 0x2E#8 (.ok []), .wait .temp, .read 0xF6#8 2 (.ok bs)] 2)) ∧
      (∀ w more, i = .measp → entryStatus i s = none → s.answers = .reply (.ok w) :: more →
        let cmd : Byte := BitVec.ofNat 8 (0x34 + 64 * s.oss.toNat)
        (n = 1 → s.AbandonedTo t rest [.write 0xF4#8 cmd (.ok [])] 1) ∧
        (n = 2 → s.AbandonedTo t rest ([.write 0xF4#8 cmd (.ok []), .wait (.delay s.oss)] ++
          if o then [.read 0xF6#8 3 .unanswered] else []) 1) ∧
        (∀ bs more', more = .reply (.ok bs) :: more' → bs.length ≤ 3 → 3 ≤ n →
          s.AbandonedTo t rest
            [.write 0xF4#8 cmd (.ok []), .wait (.delay s.oss), .read 0xF6#8 3 (.ok bs)] 2))
end

