-- ==== Sys2Proof/Laws/Arith.lean ====
section
/-! SUPPORT. The engine primitives as the bit vector operations they are. -/

namespace Sys2Proof.Machine

theorem add32_eq (a b : I32) : add32 a b = a + b := by
  simp [add32, s32, BitVec.ofInt_add]

theorem sub32_eq (a b : I32) : sub32 a b = a - b := by
  rw [sub32, s32, Int.sub_eq_add_neg, BitVec.ofInt_add, BitVec.ofInt_neg]
  simp [BitVec.sub_eq_add_neg]

theorem mul32_eq (a b : I32) : mul32 a b = a * b := by
  simp [mul32, s32, BitVec.ofInt_mul]

/-- The signed reading of a narrowed integer that fits. -/
theorem toInt_s32 (n : Int) (lo : -2147483648 ≤ n) (hi : n ≤ 2147483647) : (s32 n).toInt = n := by
  rw [s32, BitVec.toInt_ofInt]
  exact Int.bmod_eq_of_le (by omega) (by omega)

theorem asr32_eq (a : I32) (n : Nat) : asr32 a n = a.sshiftRight n := by
  rw [BitVec.sshiftRight, asr32, s32, Int.shiftRight_eq_div_pow,
    Int.fdiv_eq_ediv_of_nonneg _ (by positivity)]
  norm_num

theorem shl32_eq (a : I32) (n : Nat) : shl32 a n = a <<< n := by
  have h : ((2 : Int) ^ n) = ((2 ^ n : Nat) : Int) := by norm_num
  rw [shl32, s32, BitVec.ofInt_mul, h, BitVec.ofInt_toInt, BitVec.ofInt_natCast, BitVec.shiftLeft_eq_mul_twoPow]
  congr 1
  apply BitVec.eq_of_toNat_eq
  simp

end Sys2Proof.Machine
end

