-- ==== Sys2Proof/Laws/Decode.lean ====
section
/-! SUPPORT. The decoder's helpers: its operand check is WellFormed, and splitting a field into bytes and joining the bytes
again are inverse. -/

namespace Sys2Proof

/-- The reserved bits of a mode byte are zero exactly when it holds a number in 0..3. -/
theorem modeReserved_eq_zero_iff (m : Byte) : modeReserved m = 0#6 ↔ m.toNat ≤ 3 := by
  have := m.isLt
  rw [← BitVec.toNat_inj]
  simp only [modeReserved, BitVec.extractLsb'_toNat, BitVec.toNat_ofNat, Nat.shiftRight_eq_div_pow]
  omega

theorem modeOss_toNat (m : Byte) : (modeOss m).toNat = m.toNat % 4 := by
  simp [modeOss]

theorem len_ne_zero_iff (n : Byte) : n ≠ 0#8 ↔ 1 ≤ n.toNat := by
  rw [ne_eq, ← BitVec.toNat_inj, BitVec.toNat_ofNat]
  omega

theorem legalOperands_eq_wellFormed (i : Instr) : legalOperands i = i.WellFormed := by
  cases i <;> rw [Bool.eq_iff_iff] <;>
    simp [legalOperands, Instr.WellFormed, modeReserved_eq_zero_iff, ← len_ne_zero_iff]

theorem toNat_be16 (hi lo : Byte) : (be16 hi lo).toNat = hi.toNat * 256 + lo.toNat := by
  simp only [be16, BitVec.toNat_append]
  rw [Nat.shiftLeft_eq, Nat.mul_comm, ← Nat.two_pow_add_eq_or_of_lt lo.isLt]

theorem toNat_be32 (b3 b2 b1 b0 : Byte) :
    (be32 b3 b2 b1 b0).toNat =
      b3.toNat * 16777216 + b2.toNat * 65536 + b1.toNat * 256 + b0.toNat := by
  simp only [be32, BitVec.toNat_append]
  rw [Nat.shiftLeft_eq, Nat.mul_comm, ← Nat.two_pow_add_eq_or_of_lt (be16 b1 b0).isLt, toNat_be16, toNat_be16]
  ring

theorem be16_bytes (x : Half) : be16 (x.extractLsb' 8 8) (x.extractLsb' 0 8) = x := by
  apply BitVec.eq_of_toNat_eq
  rw [toNat_be16]
  simp only [BitVec.extractLsb'_toNat, Nat.shiftRight_eq_div_pow]
  have := x.isLt
  omega

theorem be32_bytes (x : BitVec 32) :
    be32 (x.extractLsb' 24 8) (x.extractLsb' 16 8) (x.extractLsb' 8 8) (x.extractLsb' 0 8) = x := by
  apply BitVec.eq_of_toNat_eq
  rw [toNat_be32]
  simp only [BitVec.extractLsb'_toNat, Nat.shiftRight_eq_div_pow]
  have := x.isLt
  omega

theorem bytes16_be16 (hi lo : Byte) : bytes16 (be16 hi lo) = [hi, lo] := by
  have hh := hi.isLt
  have hl := lo.isLt
  simp only [bytes16, List.cons.injEq, and_true]
  constructor <;> apply BitVec.eq_of_toNat_eq <;>
    simp only [BitVec.extractLsb'_toNat, toNat_be16, Nat.shiftRight_eq_div_pow] <;> omega

theorem bytes32_be32 (b3 b2 b1 b0 : Byte) : bytes32 (be32 b3 b2 b1 b0) = [b3, b2, b1, b0] := by
  have h3 := b3.isLt
  have h2 := b2.isLt
  have h1 := b1.isLt
  have h0 := b0.isLt
  simp only [bytes32, List.cons.injEq, and_true]
  refine ⟨?_, ?_, ?_, ?_⟩ <;> apply BitVec.eq_of_toNat_eq <;>
    simp only [BitVec.extractLsb'_toNat, toNat_be32, Nat.shiftRight_eq_div_pow] <;> omega

@[simp] theorem length_bytes16 (x : Half) : (bytes16 x).length = 2 := rfl

@[simp] theorem length_bytes32 (x : BitVec 32) : (bytes32 x).length = 4 := rfl

end Sys2Proof
end

