-- ==== Sys2Proof/Laws/State.lean ====
section
/-! SUPPORT. One lemma per field per update, each true by rfl, so that no proof unfolds a record update. -/

namespace Sys2Proof.Machine

/-! ### log -/

@[simp] theorem State.log_opened (s : State) (e : Event) : (s.log e).opened = s.opened := rfl
@[simp] theorem State.log_hBusId (s : State) (e : Event) : (s.log e).hBusId = s.hBusId := rfl
@[simp] theorem State.log_hDevAddr (s : State) (e : Event) : (s.log e).hDevAddr = s.hDevAddr := rfl
@[simp] theorem State.log_hAddrBits (s : State) (e : Event) : (s.log e).hAddrBits = s.hAddrBits := rfl
@[simp] theorem State.log_hClockHz (s : State) (e : Event) : (s.log e).hClockHz = s.hClockHz := rfl
@[simp] theorem State.log_oss (s : State) (e : Event) : (s.log e).oss = s.oss := rfl
@[simp] theorem State.log_cal (s : State) (e : Event) : (s.log e).cal = s.cal := rfl
@[simp] theorem State.log_b5 (s : State) (e : Event) : (s.log e).b5 = s.b5 := rfl
@[simp] theorem State.log_port (s : State) (e : Event) : (s.log e).port = s.port := rfl
@[simp] theorem State.log_ctrl (s : State) (e : Event) : (s.log e).ctrl = s.ctrl := rfl
@[simp] theorem State.log_answers (s : State) (e : Event) : (s.log e).answers = s.answers := rfl
@[simp] theorem State.log_draws (s : State) (e : Event) : (s.log e).draws = s.draws := rfl
@[simp] theorem State.log_resets (s : State) (e : Event) : (s.log e).resets = s.resets := rfl
@[simp] theorem State.log_hung (s : State) (e : Event) : (s.log e).hung = s.hung := rfl
@[simp] theorem State.log_record (s : State) (e : Event) : (s.log e).record = s.record ++ [e] := rfl

/-! ### succeed -/

@[simp] theorem State.succeed_opened (s : State) (p : List Byte) : (s.succeed p).opened = s.opened := rfl
@[simp] theorem State.succeed_hBusId (s : State) (p : List Byte) : (s.succeed p).hBusId = s.hBusId := rfl
@[simp] theorem State.succeed_hDevAddr (s : State) (p : List Byte) : (s.succeed p).hDevAddr = s.hDevAddr := rfl
@[simp] theorem State.succeed_hAddrBits (s : State) (p : List Byte) : (s.succeed p).hAddrBits = s.hAddrBits := rfl
@[simp] theorem State.succeed_hClockHz (s : State) (p : List Byte) : (s.succeed p).hClockHz = s.hClockHz := rfl
@[simp] theorem State.succeed_oss (s : State) (p : List Byte) : (s.succeed p).oss = s.oss := rfl
@[simp] theorem State.succeed_cal (s : State) (p : List Byte) : (s.succeed p).cal = s.cal := rfl
@[simp] theorem State.succeed_b5 (s : State) (p : List Byte) : (s.succeed p).b5 = s.b5 := rfl
@[simp] theorem State.succeed_port (s : State) (p : List Byte) : (s.succeed p).port = s.port := rfl
@[simp] theorem State.succeed_ctrl (s : State) (p : List Byte) : (s.succeed p).ctrl = s.ctrl := rfl
@[simp] theorem State.succeed_answers (s : State) (p : List Byte) : (s.succeed p).answers = s.answers := rfl
@[simp] theorem State.succeed_draws (s : State) (p : List Byte) : (s.succeed p).draws = s.draws := rfl
@[simp] theorem State.succeed_resets (s : State) (p : List Byte) : (s.succeed p).resets = s.resets := rfl
@[simp] theorem State.succeed_hung (s : State) (p : List Byte) : (s.succeed p).hung = s.hung := rfl
@[simp] theorem State.succeed_record (s : State) (p : List Byte) : (s.succeed p).record = s.record ++ [.response ⟨.ok, p⟩] := rfl

/-! ### fail -/

@[simp] theorem State.fail_opened (s : State) (st : Status) : (s.fail st).opened = s.opened := rfl
@[simp] theorem State.fail_hBusId (s : State) (st : Status) : (s.fail st).hBusId = s.hBusId := rfl
@[simp] theorem State.fail_hDevAddr (s : State) (st : Status) : (s.fail st).hDevAddr = s.hDevAddr := rfl
@[simp] theorem State.fail_hAddrBits (s : State) (st : Status) : (s.fail st).hAddrBits = s.hAddrBits := rfl
@[simp] theorem State.fail_hClockHz (s : State) (st : Status) : (s.fail st).hClockHz = s.hClockHz := rfl
@[simp] theorem State.fail_oss (s : State) (st : Status) : (s.fail st).oss = s.oss := rfl
@[simp] theorem State.fail_cal (s : State) (st : Status) : (s.fail st).cal = s.cal := rfl
@[simp] theorem State.fail_b5 (s : State) (st : Status) : (s.fail st).b5 = s.b5 := rfl
@[simp] theorem State.fail_port (s : State) (st : Status) : (s.fail st).port = s.port := rfl
@[simp] theorem State.fail_ctrl (s : State) (st : Status) : (s.fail st).ctrl = s.ctrl := rfl
@[simp] theorem State.fail_answers (s : State) (st : Status) : (s.fail st).answers = s.answers := rfl
@[simp] theorem State.fail_draws (s : State) (st : Status) : (s.fail st).draws = s.draws := rfl
@[simp] theorem State.fail_resets (s : State) (st : Status) : (s.fail st).resets = s.resets := rfl
@[simp] theorem State.fail_hung (s : State) (st : Status) : (s.fail st).hung = s.hung := rfl
@[simp] theorem State.fail_record (s : State) (st : Status) : (s.fail st).record = s.record ++ [.response ⟨st, []⟩] := rfl

/-! ### clearLatch -/

@[simp] theorem State.clearLatch_opened (s : State) : (s.clearLatch).opened = s.opened := rfl
@[simp] theorem State.clearLatch_hBusId (s : State) : (s.clearLatch).hBusId = s.hBusId := rfl
@[simp] theorem State.clearLatch_hDevAddr (s : State) : (s.clearLatch).hDevAddr = s.hDevAddr := rfl
@[simp] theorem State.clearLatch_hAddrBits (s : State) : (s.clearLatch).hAddrBits = s.hAddrBits := rfl
@[simp] theorem State.clearLatch_hClockHz (s : State) : (s.clearLatch).hClockHz = s.hClockHz := rfl
@[simp] theorem State.clearLatch_oss (s : State) : (s.clearLatch).oss = s.oss := rfl
@[simp] theorem State.clearLatch_cal (s : State) : (s.clearLatch).cal = s.cal := rfl
@[simp] theorem State.clearLatch_b5 (s : State) : (s.clearLatch).b5 = none := rfl
@[simp] theorem State.clearLatch_port (s : State) : (s.clearLatch).port = s.port := rfl
@[simp] theorem State.clearLatch_ctrl (s : State) : (s.clearLatch).ctrl = s.ctrl := rfl
@[simp] theorem State.clearLatch_answers (s : State) : (s.clearLatch).answers = s.answers := rfl
@[simp] theorem State.clearLatch_draws (s : State) : (s.clearLatch).draws = s.draws := rfl
@[simp] theorem State.clearLatch_resets (s : State) : (s.clearLatch).resets = s.resets := rfl
@[simp] theorem State.clearLatch_hung (s : State) : (s.clearLatch).hung = s.hung := rfl
@[simp] theorem State.clearLatch_record (s : State) : (s.clearLatch).record = s.record := rfl

/-! ### latch -/

@[simp] theorem State.latch_opened (s : State) (v : I32) : (s.latch v).opened = s.opened := rfl
@[simp] theorem State.latch_hBusId (s : State) (v : I32) : (s.latch v).hBusId = s.hBusId := rfl
@[simp] theorem State.latch_hDevAddr (s : State) (v : I32) : (s.latch v).hDevAddr = s.hDevAddr := rfl
@[simp] theorem State.latch_hAddrBits (s : State) (v : I32) : (s.latch v).hAddrBits = s.hAddrBits := rfl
@[simp] theorem State.latch_hClockHz (s : State) (v : I32) : (s.latch v).hClockHz = s.hClockHz := rfl
@[simp] theorem State.latch_oss (s : State) (v : I32) : (s.latch v).oss = s.oss := rfl
@[simp] theorem State.latch_cal (s : State) (v : I32) : (s.latch v).cal = s.cal := rfl
@[simp] theorem State.latch_b5 (s : State) (v : I32) : (s.latch v).b5 = some v := rfl
@[simp] theorem State.latch_port (s : State) (v : I32) : (s.latch v).port = s.port := rfl
@[simp] theorem State.latch_ctrl (s : State) (v : I32) : (s.latch v).ctrl = s.ctrl := rfl
@[simp] theorem State.latch_answers (s : State) (v : I32) : (s.latch v).answers = s.answers := rfl
@[simp] theorem State.latch_draws (s : State) (v : I32) : (s.latch v).draws = s.draws := rfl
@[simp] theorem State.latch_resets (s : State) (v : I32) : (s.latch v).resets = s.resets := rfl
@[simp] theorem State.latch_hung (s : State) (v : I32) : (s.latch v).hung = s.hung := rfl
@[simp] theorem State.latch_record (s : State) (v : I32) : (s.latch v).record = s.record := rfl

/-! ### populate -/

@[simp] theorem State.populate_opened (s : State) (c : Coeffs) : (s.populate c).opened = s.opened := rfl
@[simp] theorem State.populate_hBusId (s : State) (c : Coeffs) : (s.populate c).hBusId = s.hBusId := rfl
@[simp] theorem State.populate_hDevAddr (s : State) (c : Coeffs) : (s.populate c).hDevAddr = s.hDevAddr := rfl
@[simp] theorem State.populate_hAddrBits (s : State) (c : Coeffs) : (s.populate c).hAddrBits = s.hAddrBits := rfl
@[simp] theorem State.populate_hClockHz (s : State) (c : Coeffs) : (s.populate c).hClockHz = s.hClockHz := rfl
@[simp] theorem State.populate_oss (s : State) (c : Coeffs) : (s.populate c).oss = s.oss := rfl
@[simp] theorem State.populate_cal (s : State) (c : Coeffs) : (s.populate c).cal = some c := rfl
@[simp] theorem State.populate_b5 (s : State) (c : Coeffs) : (s.populate c).b5 = s.b5 := rfl
@[simp] theorem State.populate_port (s : State) (c : Coeffs) : (s.populate c).port = s.port := rfl
@[simp] theorem State.populate_ctrl (s : State) (c : Coeffs) : (s.populate c).ctrl = s.ctrl := rfl
@[simp] theorem State.populate_answers (s : State) (c : Coeffs) : (s.populate c).answers = s.answers := rfl
@[simp] theorem State.populate_draws (s : State) (c : Coeffs) : (s.populate c).draws = s.draws := rfl
@[simp] theorem State.populate_resets (s : State) (c : Coeffs) : (s.populate c).resets = s.resets := rfl
@[simp] theorem State.populate_hung (s : State) (c : Coeffs) : (s.populate c).hung = s.hung := rfl
@[simp] theorem State.populate_record (s : State) (c : Coeffs) : (s.populate c).record = s.record := rfl

/-! ### release -/

@[simp] theorem State.release_opened (s : State) : (s.release).opened = false := rfl
@[simp] theorem State.release_hBusId (s : State) : (s.release).hBusId = s.hBusId := rfl
@[simp] theorem State.release_hDevAddr (s : State) : (s.release).hDevAddr = s.hDevAddr := rfl
@[simp] theorem State.release_hAddrBits (s : State) : (s.release).hAddrBits = s.hAddrBits := rfl
@[simp] theorem State.release_hClockHz (s : State) : (s.release).hClockHz = s.hClockHz := rfl
@[simp] theorem State.release_oss (s : State) : (s.release).oss = s.oss := rfl
@[simp] theorem State.release_cal (s : State) : (s.release).cal = s.cal := rfl
@[simp] theorem State.release_b5 (s : State) : (s.release).b5 = none := rfl
@[simp] theorem State.release_port (s : State) : (s.release).port = s.port := rfl
@[simp] theorem State.release_ctrl (s : State) : (s.release).ctrl = s.ctrl := rfl
@[simp] theorem State.release_answers (s : State) : (s.release).answers = s.answers := rfl
@[simp] theorem State.release_draws (s : State) : (s.release).draws = s.draws := rfl
@[simp] theorem State.release_resets (s : State) : (s.release).resets = s.resets := rfl
@[simp] theorem State.release_hung (s : State) : (s.release).hung = s.hung := rfl
@[simp] theorem State.release_record (s : State) : (s.release).record = s.record := rfl

/-! ### construct -/

@[simp] theorem State.construct_opened (s : State) (b : Byte) (a : Half) (w : Byte) (k : BitVec 32) (o : Oss) : (s.construct b a w k o).opened = true := rfl
@[simp] theorem State.construct_hBusId (s : State) (b : Byte) (a : Half) (w : Byte) (k : BitVec 32) (o : Oss) : (s.construct b a w k o).hBusId = b := rfl
@[simp] theorem State.construct_hDevAddr (s : State) (b : Byte) (a : Half) (w : Byte) (k : BitVec 32) (o : Oss) : (s.construct b a w k o).hDevAddr = a := rfl
@[simp] theorem State.construct_hAddrBits (s : State) (b : Byte) (a : Half) (w : Byte) (k : BitVec 32) (o : Oss) : (s.construct b a w k o).hAddrBits = w := rfl
@[simp] theorem State.construct_hClockHz (s : State) (b : Byte) (a : Half) (w : Byte) (k : BitVec 32) (o : Oss) : (s.construct b a w k o).hClockHz = k := rfl
@[simp] theorem State.construct_oss (s : State) (b : Byte) (a : Half) (w : Byte) (k : BitVec 32) (o : Oss) : (s.construct b a w k o).oss = o := rfl
@[simp] theorem State.construct_cal (s : State) (b : Byte) (a : Half) (w : Byte) (k : BitVec 32) (o : Oss) : (s.construct b a w k o).cal = none := rfl
@[simp] theorem State.construct_b5 (s : State) (b : Byte) (a : Half) (w : Byte) (k : BitVec 32) (o : Oss) : (s.construct b a w k o).b5 = none := rfl
@[simp] theorem State.construct_port (s : State) (b : Byte) (a : Half) (w : Byte) (k : BitVec 32) (o : Oss) : (s.construct b a w k o).port = s.port := rfl
@[simp] theorem State.construct_ctrl (s : State) (b : Byte) (a : Half) (w : Byte) (k : BitVec 32) (o : Oss) : (s.construct b a w k o).ctrl = s.ctrl := rfl
@[simp] theorem State.construct_answers (s : State) (b : Byte) (a : Half) (w : Byte) (k : BitVec 32) (o : Oss) : (s.construct b a w k o).answers = s.answers := rfl
@[simp] theorem State.construct_draws (s : State) (b : Byte) (a : Half) (w : Byte) (k : BitVec 32) (o : Oss) : (s.construct b a w k o).draws = s.draws := rfl
@[simp] theorem State.construct_resets (s : State) (b : Byte) (a : Half) (w : Byte) (k : BitVec 32) (o : Oss) : (s.construct b a w k o).resets = s.resets := rfl
@[simp] theorem State.construct_hung (s : State) (b : Byte) (a : Half) (w : Byte) (k : BitVec 32) (o : Oss) : (s.construct b a w k o).hung = s.hung := rfl
@[simp] theorem State.construct_record (s : State) (b : Byte) (a : Half) (w : Byte) (k : BitVec 32) (o : Oss) : (s.construct b a w k o).record = s.record := rfl

/-! ### take -/

@[simp] theorem State.take_opened (s : State) (r : List Byte) : (s.take r).opened = s.opened := rfl
@[simp] theorem State.take_hBusId (s : State) (r : List Byte) : (s.take r).hBusId = s.hBusId := rfl
@[simp] theorem State.take_hDevAddr (s : State) (r : List Byte) : (s.take r).hDevAddr = s.hDevAddr := rfl
@[simp] theorem State.take_hAddrBits (s : State) (r : List Byte) : (s.take r).hAddrBits = s.hAddrBits := rfl
@[simp] theorem State.take_hClockHz (s : State) (r : List Byte) : (s.take r).hClockHz = s.hClockHz := rfl
@[simp] theorem State.take_oss (s : State) (r : List Byte) : (s.take r).oss = s.oss := rfl
@[simp] theorem State.take_cal (s : State) (r : List Byte) : (s.take r).cal = s.cal := rfl
@[simp] theorem State.take_b5 (s : State) (r : List Byte) : (s.take r).b5 = s.b5 := rfl
@[simp] theorem State.take_port (s : State) (r : List Byte) : (s.take r).port = r := rfl
@[simp] theorem State.take_ctrl (s : State) (r : List Byte) : (s.take r).ctrl = s.ctrl := rfl
@[simp] theorem State.take_answers (s : State) (r : List Byte) : (s.take r).answers = s.answers := rfl
@[simp] theorem State.take_draws (s : State) (r : List Byte) : (s.take r).draws = s.draws := rfl
@[simp] theorem State.take_resets (s : State) (r : List Byte) : (s.take r).resets = s.resets := rfl
@[simp] theorem State.take_hung (s : State) (r : List Byte) : (s.take r).hung = s.hung := rfl
@[simp] theorem State.take_record (s : State) (r : List Byte) : (s.take r).record = s.record := rfl

/-! ### takeCommand -/

@[simp] theorem State.takeCommand_opened (s : State) : (s.takeCommand).opened = s.opened := rfl
@[simp] theorem State.takeCommand_hBusId (s : State) : (s.takeCommand).hBusId = s.hBusId := rfl
@[simp] theorem State.takeCommand_hDevAddr (s : State) : (s.takeCommand).hDevAddr = s.hDevAddr := rfl
@[simp] theorem State.takeCommand_hAddrBits (s : State) : (s.takeCommand).hAddrBits = s.hAddrBits := rfl
@[simp] theorem State.takeCommand_hClockHz (s : State) : (s.takeCommand).hClockHz = s.hClockHz := rfl
@[simp] theorem State.takeCommand_oss (s : State) : (s.takeCommand).oss = s.oss := rfl
@[simp] theorem State.takeCommand_cal (s : State) : (s.takeCommand).cal = s.cal := rfl
@[simp] theorem State.takeCommand_b5 (s : State) : (s.takeCommand).b5 = s.b5 := rfl
@[simp] theorem State.takeCommand_port (s : State) : (s.takeCommand).port = s.port := rfl
@[simp] theorem State.takeCommand_ctrl (s : State) : (s.takeCommand).ctrl = none := rfl
@[simp] theorem State.takeCommand_answers (s : State) : (s.takeCommand).answers = s.answers := rfl
@[simp] theorem State.takeCommand_draws (s : State) : (s.takeCommand).draws = s.draws := rfl
@[simp] theorem State.takeCommand_resets (s : State) : (s.takeCommand).resets = s.resets := rfl
@[simp] theorem State.takeCommand_hung (s : State) : (s.takeCommand).hung = s.hung := rfl
@[simp] theorem State.takeCommand_record (s : State) : (s.takeCommand).record = s.record := rfl

/-! ### applyReset -/

@[simp] theorem State.applyReset_opened (s : State) : (s.applyReset).opened = false := rfl
@[simp] theorem State.applyReset_hBusId (s : State) : (s.applyReset).hBusId = 0 := rfl
@[simp] theorem State.applyReset_hDevAddr (s : State) : (s.applyReset).hDevAddr = 0 := rfl
@[simp] theorem State.applyReset_hAddrBits (s : State) : (s.applyReset).hAddrBits = 0 := rfl
@[simp] theorem State.applyReset_hClockHz (s : State) : (s.applyReset).hClockHz = 0 := rfl
@[simp] theorem State.applyReset_oss (s : State) : (s.applyReset).oss = 0 := rfl
@[simp] theorem State.applyReset_cal (s : State) : (s.applyReset).cal = none := rfl
@[simp] theorem State.applyReset_b5 (s : State) : (s.applyReset).b5 = none := rfl
@[simp] theorem State.applyReset_port (s : State) : (s.applyReset).port = s.port := rfl
@[simp] theorem State.applyReset_ctrl (s : State) : (s.applyReset).ctrl = none := rfl
@[simp] theorem State.applyReset_answers (s : State) : (s.applyReset).answers = s.answers := rfl
@[simp] theorem State.applyReset_draws (s : State) : (s.applyReset).draws = s.draws := rfl
@[simp] theorem State.applyReset_resets (s : State) : (s.applyReset).resets = s.resets := rfl
@[simp] theorem State.applyReset_hung (s : State) : (s.applyReset).hung = false := rfl
@[simp] theorem State.applyReset_record (s : State) : (s.applyReset).record = s.record := rfl

/-! ### takeReset -/

@[simp] theorem State.takeReset_opened (s : State) : (s.takeReset).opened = s.opened := rfl
@[simp] theorem State.takeReset_hBusId (s : State) : (s.takeReset).hBusId = s.hBusId := rfl
@[simp] theorem State.takeReset_hDevAddr (s : State) : (s.takeReset).hDevAddr = s.hDevAddr := rfl
@[simp] theorem State.takeReset_hAddrBits (s : State) : (s.takeReset).hAddrBits = s.hAddrBits := rfl
@[simp] theorem State.takeReset_hClockHz (s : State) : (s.takeReset).hClockHz = s.hClockHz := rfl
@[simp] theorem State.takeReset_oss (s : State) : (s.takeReset).oss = s.oss := rfl
@[simp] theorem State.takeReset_cal (s : State) : (s.takeReset).cal = s.cal := rfl
@[simp] theorem State.takeReset_b5 (s : State) : (s.takeReset).b5 = s.b5 := rfl
@[simp] theorem State.takeReset_port (s : State) : (s.takeReset).port = s.port := rfl
@[simp] theorem State.takeReset_ctrl (s : State) : (s.takeReset).ctrl = s.ctrl := rfl
@[simp] theorem State.takeReset_answers (s : State) : (s.takeReset).answers = s.answers := rfl
@[simp] theorem State.takeReset_draws (s : State) : (s.takeReset).draws = s.draws := rfl
@[simp] theorem State.takeReset_resets (s : State) : (s.takeReset).resets = s.resets.tail := rfl
@[simp] theorem State.takeReset_hung (s : State) : (s.takeReset).hung = s.hung := rfl
@[simp] theorem State.takeReset_record (s : State) : (s.takeReset).record = s.record := rfl

/-! ### abandon -/

section
variable (s : State) (n : Nat) (o : Bool) (bus : List Event)

@[simp] theorem State.abandon_opened : (s.abandon n o bus).opened = false := rfl
@[simp] theorem State.abandon_hBusId : (s.abandon n o bus).hBusId = 0 := rfl
@[simp] theorem State.abandon_hDevAddr : (s.abandon n o bus).hDevAddr = 0 := rfl
@[simp] theorem State.abandon_hAddrBits : (s.abandon n o bus).hAddrBits = 0 := rfl
@[simp] theorem State.abandon_hClockHz : (s.abandon n o bus).hClockHz = 0 := rfl
@[simp] theorem State.abandon_oss : (s.abandon n o bus).oss = 0 := rfl
@[simp] theorem State.abandon_cal : (s.abandon n o bus).cal = none := rfl
@[simp] theorem State.abandon_b5 : (s.abandon n o bus).b5 = none := rfl
@[simp] theorem State.abandon_port : (s.abandon n o bus).port = s.port := rfl
@[simp] theorem State.abandon_ctrl : (s.abandon n o bus).ctrl = none := rfl
@[simp] theorem State.abandon_answers : (s.abandon n o bus).answers = s.answers.drop (answersTaken (bus.take n)) := rfl
@[simp] theorem State.abandon_draws :
    (s.abandon n o bus).draws = s.draws + (answersTaken (bus.take n) - s.answers.length) := rfl
@[simp] theorem State.abandon_resets : (s.abandon n o bus).resets = s.resets := rfl
@[simp] theorem State.abandon_hung : (s.abandon n o bus).hung = false := rfl
@[simp] theorem State.abandon_record : (s.abandon n o bus).record = s.record ++ happened n o bus := rfl

end

/-! ### The registers alone -/

@[simp] theorem State.log_regs (s : State) (e : Event) : (s.log e).regs = s.regs := rfl
@[simp] theorem State.succeed_regs (s : State) (p : List Byte) : (s.succeed p).regs = s.regs := rfl
@[simp] theorem State.fail_regs (s : State) (st : Status) : (s.fail st).regs = s.regs := rfl
@[simp] theorem State.clearLatch_regs (s : State) : (s.clearLatch).regs = { s.regs with b5 := none } := rfl
@[simp] theorem State.latch_regs (s : State) (v : I32) : (s.latch v).regs = { s.regs with b5 := some v } := rfl
@[simp] theorem State.populate_regs (s : State) (c : Coeffs) : (s.populate c).regs = { s.regs with cal := some c } := rfl
@[simp] theorem State.release_regs (s : State) : (s.release).regs = { s.regs with opened := false, b5 := none } := rfl
@[simp] theorem State.take_regs (s : State) (r : List Byte) : (s.take r).regs = s.regs := rfl
@[simp] theorem State.takeCommand_regs (s : State) : (s.takeCommand).regs = s.regs := rfl
@[simp] theorem State.applyReset_regs (s : State) : (s.applyReset).regs = State.reset.regs := rfl
@[simp] theorem State.takeReset_regs (s : State) : (s.takeReset).regs = s.regs := rfl
@[simp] theorem State.abandon_regs (s : State) (n : Nat) (o : Bool) (bus : List Event) :
    (s.abandon n o bus).regs = State.reset.regs := rfl

@[simp] theorem State.construct_regs (s : State) (b : Byte) (a : Half) (w : Byte) (k : BitVec 32) (o : Oss) :
    (s.construct b a w k o).regs = ⟨true, b, a, w, k, o, none, none⟩ := rfl

/-! ### The flags -/

@[simp] theorem State.openedFlag_eq (s : State) : s.openedFlag = s.opened := rfl

@[simp] theorem State.calValid_eq (s : State) : s.calValid = s.cal.isSome := rfl

@[simp] theorem State.b5Valid_eq (s : State) : s.b5Valid = s.b5.isSome := rfl

end Sys2Proof.Machine
end

