-- ==== Sys2Proof/Laws/Ops.lean ====
section
/-! SUPPORT. What each shared operation can do, said once: a property of the final state of a transaction holds if it holds in
each of the ways it can go; what it does for a given next answer; what the reset input makes of an operation. -/

namespace Sys2Proof.Machine

/-- The state when a transaction's reply is handed on: one answer fewer, the event recorded. -/
def afterReply (s : State) (d : Nat) (e : Event) : State :=
  { s with answers := s.answers.tail, draws := d }.log e

/-- The state a transaction that is never answered leaves. -/
def afterSilence (s : State) (rest : List Answer) (e : Event) : State :=
  { s with answers := rest, hung := true }.log e

@[simp] theorem afterSilence_regs (s : State) (rest : List Answer) (e : Event) :
    (afterSilence s rest e).regs = s.regs := rfl

@[simp] theorem afterSilence_hung (s : State) (rest : List Answer) (e : Event) :
    (afterSilence s rest e).hung = true := rfl

@[simp] theorem afterSilence_record (s : State) (rest : List Answer) (e : Event) :
    (afterSilence s rest e).record = s.record ++ [e] := rfl

@[simp] theorem afterSilence_answers (s : State) (rest : List Answer) (e : Event) :
    (afterSilence s rest e).answers = rest := rfl

@[simp] theorem afterReply_regs (s : State) (d : Nat) (e : Event) : (afterReply s d e).regs = s.regs := rfl

@[simp] theorem afterReply_opened (s : State) (d : Nat) (e : Event) : (afterReply s d e).opened = s.opened := rfl

@[simp] theorem afterReply_cal (s : State) (d : Nat) (e : Event) : (afterReply s d e).cal = s.cal := rfl

@[simp] theorem afterReply_b5 (s : State) (d : Nat) (e : Event) : (afterReply s d e).b5 = s.b5 := rfl

@[simp] theorem afterReply_oss (s : State) (d : Nat) (e : Event) : (afterReply s d e).oss = s.oss := rfl

@[simp] theorem afterReply_port (s : State) (d : Nat) (e : Event) : (afterReply s d e).port = s.port := rfl

@[simp] theorem afterReply_ctrl (s : State) (d : Nat) (e : Event) : (afterReply s d e).ctrl = s.ctrl := rfl

@[simp] theorem afterReply_resets (s : State) (d : Nat) (e : Event) :
    (afterReply s d e).resets = s.resets := rfl

@[simp] theorem afterReply_record (s : State) (d : Nat) (e : Event) :
    (afterReply s d e).record = s.record ++ [e] := rfl

@[simp] theorem afterReply_answers (s : State) (d : Nat) (e : Event) :
    (afterReply s d e).answers = s.answers.tail := rfl

@[simp] theorem afterReply_hung (s : State) (d : Nat) (e : Event) : (afterReply s d e).hung = s.hung := rfl

section
variable {P : State → Prop} {s : State}

/-- The ways of a transaction: a reply (given or free), a hang. -/
theorem transact_cases {n : Nat} {event : TxOutcome → Event} {k : Reply → State → State}
    (reply : ∀ r d, P (k (clipReply n r) (afterReply s d (event (.ofReply (clipReply n r))))))
    (hang : ∀ rest, s.answers = .never :: rest → P (afterSilence s rest (event .unanswered))) :
    P (transact n event s k) := by
  unfold transact
  split
  · next h => simpa [afterReply, h] using reply (Config.freeReply s.draws) (s.draws + 1)
  · next r rest h => simpa [afterReply, h] using reply r s.draws
  · next rest h => exact hang rest h

theorem writeByte_cases {addr v : Byte} {k : State → State}
    (failed : ∀ d, P ((afterReply s d (.write addr v .ioError)).fail .ioError))
    (done : ∀ d, P (k (afterReply s d (.write addr v (.ok [])))))
    (hang : ∀ rest, s.answers = .never :: rest → P (afterSilence s rest (.write addr v .unanswered))) :
    P (writeByte addr v s k) :=
  transact_cases (fun r d => by cases r with
    | ioError => exact failed d
    | ok bs => exact done d) hang

theorem busOpen_cases {b : Byte} {a : Half} {w : Byte} {c : BitVec 32} {k : State → State}
    (failed : ∀ d, P ((afterReply s d (.busOpen b a w c .ioError)).fail .ioError))
    (done : ∀ d, P (k (afterReply s d (.busOpen b a w c (.ok [])))))
    (hang : ∀ rest, s.answers = .never :: rest → P (afterSilence s rest (.busOpen b a w c .unanswered))) :
    P (busOpen b a w c s k) :=
  transact_cases (fun r d => by cases r with
    | ioError => exact failed d
    | ok bs => exact done d) hang

theorem readExact_cases {addr : Byte} {n : Nat} {k : List Byte → State → State}
    (failed : ∀ d, P ((afterReply s d (.read addr n .ioError)).fail .ioError))
    (short : ∀ d bs, bs.length < n → P ((afterReply s d (.read addr n (.ok bs))).fail .insufficientData))
    (done : ∀ d bs, bs.length = n → P (k bs (afterReply s d (.read addr n (.ok bs)))))
    (hang : ∀ rest, s.answers = .never :: rest → P (afterSilence s rest (.read addr n .unanswered))) :
    P (readExact addr n s k) :=
  transact_cases (fun r d => by
    cases r with
    | ioError => exact failed d
    | ok bs =>
      by_cases h : bs.length < n
      · simpa [clipReply, TxOutcome.ofReply, h] using short d (bs.take n) (by simp [h])
      · simpa [clipReply, TxOutcome.ofReply, h] using done d (bs.take n) (by simp; omega)) hang

end

/-! ### For a given next answer -/

theorem transact_reply {n : Nat} {event : TxOutcome → Event} {s : State} {k : Reply → State → State} {r : Reply}
    {rest : List Answer} (h : s.answers = .reply r :: rest) :
    transact n event s k = k (clipReply n r) ({ s with answers := rest }.log (event (.ofReply (clipReply n r)))) := by
  simp [transact, h]

theorem transact_never {n : Nat} {event : TxOutcome → Event} {s : State} {k : Reply → State → State}
    {rest : List Answer} (h : s.answers = .never :: rest) :
    transact n event s k = afterSilence s rest (event .unanswered) := by
  simp [transact, h, afterSilence]

/-! ### Under the reset input -/

/-- With no reset during it, an operation runs to its end. -/
theorem runUnderReset_undisturbed {s : State} {run : State → Result} (h : s.resets.headD .no = .no) :
    s.runUnderReset run = run s.takeReset := by
  unfold State.runUnderReset
  split
  · next he => simp [he] at h
  · rfl

/-- With a reset during it, an operation is abandoned. -/
theorem runUnderReset_abandoned {s t : State} {run : State → Result} {n : Nat} {o : Bool} {rs : List HostReset}
    (h : s.resets = .during n o :: rs) (hr : run s.takeReset = .next t) :
    s.runUnderReset run = .next (s.takeReset.abandon n o (busOf (t.record.drop s.record.length))) := by
  simp [State.runUnderReset, h, hr]

/-- The ways of an operation under the reset input. -/
theorem runUnderReset_next {s t : State} {run : State → Result} (h : s.runUnderReset run = .next t) :
    run s.takeReset = .next t ∨
      (s.resets.headD .no ≠ .no ∧ ∃ n o u, run s.takeReset = .next u ∧
        t = s.takeReset.abandon n o (busOf (u.record.drop s.record.length))) := by
  unfold State.runUnderReset at h
  split at h
  · next n o rs he =>
    split at h
    · next u hu =>
      injection h with h
      exact .inr ⟨by simp [he], n, o, u, hu, h.symm⟩
    · cases h
    · cases h
  · exact .inl h

end Sys2Proof.Machine
end

