-- ==== Sys2Proof/Laws/PerInstr.lean ====
section
/-! SUPPORT. Statements about every instruction as syntax, one lemma per constructor. -/

namespace Sys2Proof.Laws

/-- The request of an instruction has the length its opcode byte announces (spec/30_encoding.md R73, R82). -/
def RequestLength.Statement (i : Instr) : Prop :=
  (encode i).length = requestLength ((encode i).headD 0#8)

theorem RequestLength.openSensor (b : Byte) (a : Half) (w : Byte) (c : BitVec 32) (m : Byte) :
    RequestLength.Statement (.openSensor b a w c m) := by
  simp [RequestLength.Statement, encode, requestLength]

theorem RequestLength.closeSensor : RequestLength.Statement .closeSensor := by
  simp [RequestLength.Statement, encode, requestLength]

theorem RequestLength.wrb (r v : Byte) : RequestLength.Statement (.wrb r v) := by
  simp [RequestLength.Statement, encode, requestLength]

theorem RequestLength.rdb (r n : Byte) : RequestLength.Statement (.rdb r n) := by
  simp [RequestLength.Statement, encode, requestLength]

theorem RequestLength.ldcal : RequestLength.Statement .ldcal := by
  simp [RequestLength.Statement, encode, requestLength]

theorem RequestLength.meast : RequestLength.Statement .meast := by
  simp [RequestLength.Statement, encode, requestLength]

theorem RequestLength.measp : RequestLength.Statement .measp := by
  simp [RequestLength.Statement, encode, requestLength]

theorem RequestLength.compt (u : Half) : RequestLength.Statement (.compt u) := by
  simp [RequestLength.Statement, encode, requestLength]

theorem RequestLength.compp (p f : I32) (m : Byte) : RequestLength.Statement (.compp p f m) := by
  simp [RequestLength.Statement, encode, requestLength]

theorem RequestLength.cmdTemp : RequestLength.Statement .cmdTemp := by
  simp [RequestLength.Statement, encode, requestLength, commandByte]

theorem RequestLength.cmdPres (o : Oss) : RequestLength.Statement (.cmdPres o) := by
  unfold RequestLength.Statement
  revert o
  decide

end Sys2Proof.Laws
end

