-- ==== Sys2Proof/Laws/Step.lean ====
section
/-! SUPPORT. What a step can do, said once. -/

namespace Sys2Proof.Machine

/-- The ways of a step that answers a next state: a reset between operations; an instruction on the state whose port and emitter
slot have been taken from, run to its end or abandoned by a reset; a reserved opcode's refusal, or the reset that comes before
it; idling. -/
theorem step_cases {s t : State} (h : step s = .next t) :
    (s.resets.headD .no = .now ∧ t = s.takeReset.applyReset) ∨
    (∃ i p c u, s.hung = false ∧ exec i { s with port := p, ctrl := c, resets := s.resets.tail } = .next u ∧
      (t = u ∨ (s.resets.headD .no ≠ .no ∧ ∃ n o,
        t = State.abandon { s with port := p, ctrl := c, resets := s.resets.tail } n o
          (busOf (u.record.drop s.record.length))))) ∨
    (∃ p, s.hung = false ∧
      (t = State.fail { s with port := p, resets := s.resets.tail } .illegalOperation ∨
        (s.resets.headD .no ≠ .no ∧ ∃ n o,
          t = State.abandon { s with port := p, resets := s.resets.tail } n o []))) ∨
    t = s := by
  unfold step at h
  split at h
  · next hr =>
    refine .inl ⟨?_, (Host.Outcome.next.inj h).symm⟩
    have hr : s.resets.head? = some .now := by simpa [State.resetNow] using hr
    rw [List.headD_eq_head?_getD, hr]
    rfl
  · split at h
    · cases h
    · next hh =>
      have hh : s.hung = false := by simpa using hh
      split at h
      · next c hc =>
        rcases runUnderReset_next h with h | ⟨hn, n, o, u, hu, rfl⟩
        · exact .inr (.inl ⟨c.instr, s.port, none, t, hh, h, .inl rfl⟩)
        · exact .inr (.inl ⟨c.instr, s.port, none, u, hh, hu, .inr ⟨hn, n, o, rfl⟩⟩)
      · split at h
        · next i rest _ =>
          rcases runUnderReset_next h with h | ⟨hn, n, o, u, hu, rfl⟩
          · exact .inr (.inl ⟨i, rest, s.ctrl, t, hh, h, .inl rfl⟩)
          · exact .inr (.inl ⟨i, rest, s.ctrl, u, hh, hu, .inr ⟨hn, n, o, rfl⟩⟩)
        · next i rest _ =>
          rcases runUnderReset_next h with h | ⟨hn, n, o, u, hu, rfl⟩
          · exact .inr (.inl ⟨i, rest, s.ctrl, t, hh, h, .inl rfl⟩)
          · exact .inr (.inl ⟨i, rest, s.ctrl, u, hh, hu, .inr ⟨hn, n, o, rfl⟩⟩)
        · next op rest _ =>
          rcases runUnderReset_next h with h | ⟨hn, n, o, u, hu, rfl⟩
          · exact .inr (.inr (.inl ⟨rest, hh, .inl (Host.Outcome.next.inj h).symm⟩))
          · refine .inr (.inr (.inl ⟨rest, hh, .inr ⟨hn, n, o, ?_⟩⟩))
            obtain rfl := Host.Outcome.next.inj hu
            simp [illegalOperation, State.takeReset, State.take, busOf]
        · exact .inr (.inr (.inr (Host.Outcome.next.inj h).symm))

end Sys2Proof.Machine
end

