-- ==== Sys2Proof/Tests/Slice0.lean ====
section
/-! SUPPORT. The author's own tests. Expected values come from spec/95_test_vectors.md (the vector set is named at each test) or
from the examples in the rules; then, for every statement with hypotheses, a state and operands that meet them. -/

namespace Sys2Proof.Tests

open Sys2Proof.Machine

/-! ### States and readings of results -/

/-- The coefficient set REF of 95_test_vectors.md. -/
def ref : Coeffs := ⟨408, -72, -14383, 32741, 32757, 23153, 6190, 4, -32768, -8711, 2868⟩

/-- The coefficient set S2: AC4 to AC6 have the top bit set. -/
def s2 : Coeffs := ⟨7911, -1208, -14468, 33869, 40000, 36000, 6515, 46, -32768, -11786, 2647⟩

/-- The coefficient set ZERO. -/
def zero : Coeffs := ⟨0, 0, 0, 0, 0, 0, 0, 0, 0, 0, 0⟩

/-- The calibration block of REF. -/
def refBytes : List Byte :=
  [0x01, 0x98, 0xFF, 0xB8, 0xC7, 0xD1, 0x7F, 0xE5, 0x7F, 0xF5, 0x5A] ++
    [0x71, 0x18, 0x2E, 0x00, 0x04, 0x80, 0x00, 0xDD, 0xF9, 0x0B, 0x34]

/-- The calibration block of S2. -/
def s2Bytes : List Byte :=
  [0x1E, 0xE7, 0xFB, 0x48, 0xC7, 0x7C, 0x84, 0x4D, 0x9C, 0x40, 0x8C] ++
    [0xA0, 0x19, 0x73, 0x00, 0x2E, 0x80, 0x00, 0xD1, 0xF6, 0x0A, 0x57]

/-- Closed, with the environment's coming answers. -/
def closedWith (as : List Answer) : State := { State.reset with answers := as }

/-- Open, uncalibrated. -/
def openWith (as : List Answer) : State := { State.reset with opened := true, answers := as }

/-- Open, calibrated, no B5. -/
def calWith (c : Coeffs) (as : List Answer) : State := { openWith as with cal := some c }

/-- Open, calibrated, B5 latched, at an oversampling setting. -/
def latched (c : Coeffs) (b5 : I32) (oss : Oss) (as : List Answer) : State :=
  { calWith c as with b5 := some b5, oss := oss }

/-- The transport answers with these bytes. -/
def gives (bs : List Byte) : Answer := .reply (.ok bs)

/-- The transport fails. -/
def fails : Answer := .reply .ioError

/-- The bytes of the response that ends a run, if a response ends it. -/
def lastResponse : Result → Option (List Byte)
  | .next t => match t.record.getLast? with
    | some (.response r) => some (responseBytes r)
    | _ => none
  | .fault _ => none
  | .refused _ => none

/-- The record after a run. -/
def recordOf : Result → List Event
  | .next t => t.record
  | .fault _ => []
  | .refused _ => []

/-- The registers after a run. -/
def regsOf : Result → Option Regs
  | .next t => some t.regs
  | .fault _ => none
  | .refused _ => none

/-! ### WellFormed -/

theorem test_wellFormed_refuses :
    Instr.WellFormed (.openSensor 1 0x77 7 100000 4) = false ∧ Instr.WellFormed (.rdb 0xAA 0) = false ∧
      Instr.WellFormed (.compp 320000 4903 4) = false := by decide

theorem test_wellFormed_accepts :
    Instr.WellFormed (.openSensor 1 0x77 7 100000 3) = true ∧ Instr.WellFormed (.rdb 0xAA 1) = true ∧
      Instr.WellFormed (.compp 320000 4903 3) = true := by decide

/-! ### Decoding: V-ENC, V-CMD -/

theorem test_decode_open :
    decode [0x01, 0x01, 0x00, 0x77, 0x07, 0x00, 0x01, 0x86, 0xA0, 0x00] =
      .operation (.openSensor 1 0x77 7 100000 0) [] := by decide

theorem test_decode_close : decode [0x02] = .operation .closeSensor [] := by decide

theorem test_decode_wrb : decode [0x03, 0xF4, 0x2E] = .operation (.wrb 0xF4 0x2E) [] := by decide

theorem test_decode_rdb : decode [0x04, 0x00, 0xFF] = .operation (.rdb 0x00 255) [] := by decide

theorem test_decode_ldcal : decode [0x05, 0x06] = .operation .ldcal [0x06] := by decide

theorem test_decode_meast : decode [0x06] = .operation .meast [] := by decide

theorem test_decode_measp : decode [0x07] = .operation .measp [] := by decide

theorem test_decode_compt : decode [0x08, 0x80, 0x00] = .operation (.compt 32768) [] := by decide

theorem test_decode_compp :
    decode [0x09, 0x00, 0x00, 0x5D, 0x23, 0x00, 0x00, 0x09, 0x5F, 0x00] =
      .operation (.compp 23843 2399 0) [] := by decide

theorem test_decode_illegalOperand :
    decode [0x01, 0x01, 0x00, 0x77, 0x07, 0x00, 0x01, 0x86, 0xA0, 0x10] =
        .illegalOperand (.openSensor 1 0x77 7 100000 0x10) [] ∧
      decode [0x04, 0xAA, 0x00] = .illegalOperand (.rdb 0xAA 0) [] ∧
      decode [0x09, 0x00, 0x04, 0xE2, 0x00, 0x00, 0x00, 0x13, 0x27, 0x04] =
        .illegalOperand (.compp 320000 4903 4) [] := by decide

theorem test_decode_illegalOperation :
    decode [0x00] = .illegalOperation 0x00 [] ∧ decode [0x0A] = .illegalOperation 0x0A [] ∧
      decode [0x7F] = .illegalOperation 0x7F [] ∧ decode [0xFF, 0x05] = .illegalOperation 0xFF [0x05] := by
  decide

theorem test_decode_incomplete : decode [] = .incomplete ∧ decode [0x03, 0xF4] = .incomplete := by decide

theorem test_decodeCommand :
    [0x2E#8, 0x34#8, 0x74#8, 0xB4#8, 0xF4#8, 0x6E#8].map decodeCommand =
      [some .temperature, some (.pressure 0), some (.pressure 1), some (.pressure 2), some (.pressure 3),
        none] := by decide

theorem test_encode_compp :
    encode (.compp (-1) (-4000) 3) = [0x09, 0xFF, 0xFF, 0xFF, 0xFF, 0xFF, 0xFF, 0xF0, 0x60, 0x03] := by decide

/-- The rows of the opcode table, by their "match". -/
theorem test_decodeTableWord :
    decodeTableWord 24 0x03F42E = some (.wrb 0xF4 0x2E) ∧
      decodeTableWord 80 0x01010077070001_86A000 = some (.openSensor 1 0x77 7 100000 0) ∧
      decodeTableWord 8 0x2E = some .cmdTemp ∧ decodeTableWord 8 0xB4 = some (.cmdPres 2) ∧
      decodeTableWord 8 0x05 = some .ldcal ∧ decodeTableWord 24 0x040000 = some (.rdb 0 0) ∧
      decodeTableWord 8 0x0A = none := by decide

theorem test_withFetchWord :
    lastResponse (step (State.reset.withFetchWord 24 0x03F42E)) = some [0x05] ∧
      (State.reset.withFetchWord 8 0x2E).ctrl = some .temperature ∧
      (State.reset.withFetchWord 8 0x05).port = [0x05] := by decide

/-! ### Calibration: V-CAL -/

theorem test_decodeCal : decodeCal refBytes = ref ∧ decodeCal s2Bytes = s2 := by decide

theorem test_ldcal :
    lastResponse (exec .ldcal (openWith [gives s2Bytes])) =
      some (0x00 ::
        [0x00, 0x00, 0x1E, 0xE7, 0xFF, 0xFF, 0xFB, 0x48, 0xFF, 0xFF, 0xC7, 0x7C] ++
        [0x00, 0x00, 0x84, 0x4D, 0x00, 0x00, 0x9C, 0x40, 0x00, 0x00, 0x8C, 0xA0] ++
        [0x00, 0x00, 0x19, 0x73, 0x00, 0x00, 0x00, 0x2E, 0xFF, 0xFF, 0x80, 0x00] ++
        [0xFF, 0xFF, 0xD1, 0xF6, 0x00, 0x00, 0x0A, 0x57]) := by decide +kernel

/-- L1-5: 21 bytes leave no partial state. -/
theorem test_ldcal_short :
    lastResponse (exec .ldcal (openWith [gives (refBytes.take 21)])) = some [0x02] ∧
      regsOf (exec .ldcal (openWith [gives (refBytes.take 21)])) = some (openWith []).regs := by decide +kernel

/-! ### The engine: V-UT, V-UP, V-TEMP, V-PRES -/

theorem test_decodeUP :
    decodeUP [0x12, 0x34, 0x56] 0 = 4660 ∧ decodeUP [0x12, 0x34, 0x56] 1 = 9320 ∧
      decodeUP [0x12, 0x34, 0x56] 2 = 18641 ∧ decodeUP [0xFF, 0xFF, 0xFF] 3 = 524287 := by decide +kernel

/-- Source scenario, lowest and highest UT, a negative divisor, a wrapping product, a zero divisor. -/
theorem test_computeTemperature :
    computeTemperature 27898 ref = some (150, 2399) ∧
      computeTemperature 0 ref = some (-1392, -22267) ∧
      computeTemperature 65535 ref = some (2623, 41972) ∧
      computeTemperature 27898 { ref with md := -5000 } = some (4635, 74159) ∧
      computeTemperature 65535 { ref with ac5 := 65535, ac6 := 0 } = some (-390, -6234) ∧
      computeTemperature 42000 s2 = some (306, 4903) ∧
      computeTemperature 101 { ref with ac5 := 32768, ac6 := 100, md := -1 } = none := by decide +kernel

/-- Source scenario; both arms of the Pa step; a wrapping square; unsigned AC4; U4's signed B4. -/
theorem test_computePressure :
    computePressure 23843 2399 ref 0 = some (69964, 699) ∧
      computePressure 190744 2399 ref 3 = some (69963, 699) ∧
      computePressure 65535 2399 ref 0 = some (195160, 1951) ∧
      computePressure 421 2399 ref 0 = some (253990, 2539) ∧
      computePressure 23843 50341 ref 0 = some (146944, 1469) ∧
      (computePressure 23843 2399 { ref with ac4 := 65535 } 0).map Prod.fst = some 236 ∧
      computePressure 1 4000 zero 0 = none := by decide +kernel

/-- S2 through the command road (P4). -/
theorem test_computePressure_s2 :
    computePressure 320000 4903 s2 3 = some (96264, 962) ∧
      computePressure 65535 2399 s2 0 = some (166062, 1660) := by decide +kernel

/-- Third group, Z1: a doubling that wraps and a negative Pa, rounded down. -/
theorem test_computePressure_edges :
    computePressure 30000 4000 { zero with ac4 := 1 } 0 = some (-1294964727, -12949648) ∧
      computePressure 60000 4000 { zero with ac4 := 1 } 0 = some (1705032737, 17050327) ∧
      computePressure 65000 4000 { zero with ac4 := 1 } 0 = some (-2089934140, -20899342) := by decide +kernel

/-! ### Operations: V-BUS, V-ACQ, V-STAT, P1 to P5 -/

/-- V-BUS: a successful OPEN's record and registers. -/
theorem test_open :
    recordOf (exec (.openSensor 1 0x77 7 100000 0) (closedWith [gives []])) =
        [.busOpen 1 0x77 7 100000 (.ok []), .wait .settle, .response ⟨.ok, []⟩] ∧
      regsOf (exec (.openSensor 1 0x77 7 100000 3) (closedWith [gives []])) =
        some ⟨true, 1, 0x77, 7, 100000, 3, none, none⟩ := by decide +kernel

/-- V-STAT: the operand check before the handle check; ALREADY_OPEN touches nothing. -/
theorem test_open_refused :
    lastResponse (exec (.openSensor 1 0x77 7 100000 0x10) (latched ref 2399 0 [])) = some [0x07] ∧
      lastResponse (exec (.openSensor 1 0x77 7 100000 0) (latched ref 2399 0 [])) = some [0x09] := by
  decide +kernel

/-- P2: CLOSE keeps the store and drops the latch; a second CLOSE issues nothing. -/
theorem test_close :
    recordOf (exec .closeSensor (latched ref 2399 0 [])) = [.busClose, .response ⟨.ok, []⟩] ∧
      (regsOf (exec .closeSensor (latched ref 2399 0 []))).map Regs.cal = some (some ref) ∧
      (regsOf (exec .closeSensor (latched ref 2399 0 []))).map Regs.b5 = some none ∧
      recordOf (exec .closeSensor State.reset) = [.response ⟨.ok, []⟩] := by decide +kernel

/-- V-BUS: WRB to 0xF4 does not touch the latch. -/
theorem test_wrb :
    recordOf (exec (.wrb 0xF4 0x2E) (latched ref 2399 0 [gives []])) =
        [.write 0xF4 0x2E (.ok []), .response ⟨.ok, []⟩] ∧
      regsOf (exec (.wrb 0xF4 0x2E) (latched ref 2399 0 [gives []])) =
        some (latched ref 2399 0 []).regs := by decide +kernel

/-- V-BUS: a read past 0xFF, a short read, `len = 0` before CLOSED. -/
theorem test_rdb :
    lastResponse (exec (.rdb 0xFE 4) (openWith [gives [1, 2, 3, 4]])) = some [0, 1, 2, 3, 4] ∧
      lastResponse (exec (.rdb 0xF6 3) (openWith [gives [0x6C, 0xFA]])) = some [0x02] ∧
      lastResponse (exec (.rdb 0xAA 0) State.reset) = some [0x07] := by decide +kernel

/-- V-ACQ row 1. -/
theorem test_meast :
    lastResponse (exec .meast (calWith ref [gives [], gives [0x6C, 0xFA]])) =
        some [0x00, 0x00, 0x00, 0x00, 0x96, 0x00, 0x00, 0x09, 0x5F, 0x6C, 0xFA] ∧
      (regsOf (exec .meast (calWith ref [gives [], gives [0x6C, 0xFA]]))).map Regs.b5 = some (some 2399) := by
  decide +kernel

/-- V-ACQ rows 11, 12; P5: the old B5 is gone. -/
theorem test_meast_fails :
    recordOf (exec .meast (latched ref 2399 0 [fails])) =
        [.write 0xF4 0x2E .ioError, .response ⟨.ioError, []⟩] ∧
      lastResponse (exec .meast (latched ref 2399 0 [gives [], gives [0x6C]])) = some [0x02] ∧
      (regsOf (exec .meast (latched ref 2399 0 [gives [], gives [0x6C]]))).map Regs.b5 = some none ∧
      lastResponse (exec .meast (calWith zero [gives [], gives [0x12, 0x34]])) = some [0x06] := by
  decide +kernel

/-- V-ACQ rows 2 and 10: the third byte counts at `oss = 3` only. -/
theorem test_measp :
    lastResponse (exec .measp (latched ref 2399 0 [gives [], gives [0x5D, 0x23, 0xFF]])) =
        some [0x00, 0x00, 0x01, 0x11, 0x4C, 0x00, 0x00, 0x02, 0xBB, 0x00, 0x00, 0x5D, 0x23] ∧
      recordOf (exec .measp (latched ref 2399 3 [gives [], gives [0x5D, 0x23, 0x00]])) =
        [.write 0xF4 0xF4 (.ok []), .wait (.delay 3), .read 0xF6 3 (.ok [0x5D, 0x23, 0x00]),
          .response ⟨.ok, [0x00, 0x01, 0x11, 0x4B, 0x00, 0x00, 0x02, 0xBB, 0x00, 0x02, 0xE9, 0x18]⟩] := by
  decide +kernel

/-- V-ACQ row 14, V-STAT. -/
theorem test_measp_fails :
    lastResponse (exec .measp (latched ref 2399 0 [gives [], gives [0x5D, 0x23]])) = some [0x02] ∧
      (regsOf (exec .measp (latched ref 2399 0 [gives [], gives [0x5D, 0x23]]))).map Regs.b5 = some none ∧
      lastResponse (exec .measp (calWith zero [])) = some [0x04] ∧
      lastResponse (exec .measp State.reset) = some [0x05] := by decide +kernel

/-- P4: COMPT after CLOSE; V-STAT: uncalibrated. -/
theorem test_compt :
    lastResponse (exec (.compt 42000) { State.reset with cal := some s2 }) =
        some [0x00, 0x00, 0x00, 0x01, 0x32, 0x00, 0x00, 0x13, 0x27] ∧
      lastResponse (exec (.compt 27898) State.reset) = some [0x03] := by decide +kernel

/-- P4, P5: COMPP on S2 and on ZERO; the operand check first. -/
theorem test_compp :
    lastResponse (exec (.compp 320000 4903 3) { State.reset with cal := some s2 }) =
        some [0x00, 0x00, 0x01, 0x78, 0x08, 0x00, 0x00, 0x03, 0xC2] ∧
      lastResponse (exec (.compp 1 4000 0) (calWith zero [])) = some [0x06] ∧
      lastResponse (exec (.compp 1 4000 4) State.reset) = some [0x07] := by decide +kernel

/-- R79: the bytes written. -/
theorem test_commands :
    recordOf (exec .cmdTemp (openWith [gives []])) = [.write 0xF4 0x2E (.ok [])] ∧
      recordOf (exec (.cmdPres 1) (openWith [fails])) = [.write 0xF4 0x74 .ioError] := by decide +kernel

/-- P1: MEAST then MEASP as one cycle. -/
theorem test_acquire :
    lastResponse (acquire (calWith ref
        [gives [], gives [0x6C, 0xFA], gives [], gives [0x5D, 0x23, 0x00]])) =
      some [0x00, 0x00, 0x01, 0x11, 0x4C, 0x00, 0x00, 0x02, 0xBB, 0x00, 0x00, 0x5D, 0x23] := by
  decide +kernel

/-- R192: a silent transport. -/
theorem test_silence :
    recordOf (exec .meast (calWith ref [.never])) = [.write 0xF4 0x2E .unanswered] := by decide +kernel

/-- A request at the port, and the reset input. -/
def under (s : State) (req : List Byte) (r : HostReset) : State := { s with port := req, resets := [r] }

/-- R211: resets in the wait, while the read is outstanding, after the last answer, in CLOSE, in COMPT, between operations. -/
theorem test_resets :
    recordOf (step (under (calWith ref [gives [], gives [1, 2]]) [0x06] (.during 2 false))) =
        [.write 0xF4 0x2E (.ok []), .wait .temp] ∧
      recordOf (step (under (calWith ref [gives [], .never]) [0x06] (.during 2 true))) =
        [.write 0xF4 0x2E (.ok []), .wait .temp, .read 0xF6 2 .unanswered] ∧
      recordOf (step (under (openWith [gives []]) [0x03, 0xF4, 0x2E] (.during 1 false))) =
        [.write 0xF4 0x2E (.ok [])] ∧
      recordOf (step (under (openWith []) [0x02] (.during 1 false))) = [.busClose] ∧
      recordOf (step (under (calWith ref []) [0x08, 0x6C, 0xFA] (.during 0 true))) = [] ∧
      regsOf (step (under (calWith ref []) [0x08, 0x6C, 0xFA] .now)) = some State.reset.regs := by
  decide +kernel

/-! ### Every statement's hypotheses can be met

One theorem per statement that has hypotheses, its clauses in the statement's order, at the ends of their ranges. -/

theorem test_RequestCodecExact_hypotheses :
    (Instr.isRequest (.rdb 0 1) = true ∧ Instr.WellFormed (.rdb 0 1) = true) ∧
      decode [0x04, 0x00, 0xFF] = .operation (.rdb 0 255) [] ∧
      decode [0x04, 0x00, 0x00, 0x05] = .illegalOperand (.rdb 0 0) [0x05] ∧
      decode [0x0A] = .illegalOperation 0x0A [] ∧
      ((0x00#8).toNat = 0 ∧ 10 ≤ (0x0A#8).toNat ∧ ¬ ((0x01#8).toNat = 0 ∨ 10 ≤ (0x01#8).toNat) ∧
        ¬ ((0x09#8).toNat = 0 ∨ 10 ≤ (0x09#8).toNat)) ∧
      [0x04#8, 0x00#8].length < requestLength ([0x04#8, 0x00#8].headD 0#8) := by decide

theorem test_RequestTakenWhole_hypotheses :
    decode (0x03 :: [0xF4, 0x2E, 0x05]) = .operation (.wrb 0xF4 0x2E) [0x05] ∧
      decode (0x04 :: [0xAA, 0x00, 0x05]) = .illegalOperand (.rdb 0xAA 0) [0x05] ∧
      decode (0xFF :: [0x05]) = .illegalOperation 0xFF [0x05] := by decide

theorem test_CommandByteCodec_hypotheses :
    decodeCommand 0x2E = some .temperature ∧ decodeCommand 0xF4 = some (.pressure 3) := by decide

/-- A state with these bytes at the port. -/
def porting (bs : List Byte) : State := { State.reset with port := bs }

theorem test_StepRunsDecodedRequest_hypotheses :
    ((porting [0x04, 0xAA, 0x01]).resets.headD .no = .no ∧ (porting [0x04, 0xAA, 0x01]).hung = false ∧
        (porting [0x04, 0xAA, 0x01]).ctrl = none) ∧
      (porting [0x04, 0xAA, 0x01]).port = encode (.rdb 0xAA 1) ++ [] ∧
      decode (porting [0x04, 0xAA, 0x01]).port = .operation (.rdb 0xAA 1) [] ∧
      decode (porting [0x04, 0xAA, 0x00]).port = .illegalOperand (.rdb 0xAA 0) [] := by decide

theorem test_StepEmitsOrIdles_hypotheses :
    (State.reset.resets.headD .no = .no ∧ State.reset.hung = false) ∧
      { State.reset with ctrl := some (.pressure 3) }.ctrl = some (.pressure 3) ∧
      ((porting [0x04, 0xAA]).ctrl = none ∧
        (porting [0x04, 0xAA]).port.length < requestLength ((porting [0x04, 0xAA]).port.headD 0#8)) := by
  decide

theorem test_ReservedOpcodeRefused_hypotheses :
    (porting [0x0A]).resets.headD .no = .no ∧ (porting [0x0A]).hung = false ∧ (porting [0x0A]).ctrl = none ∧
      (porting [0x0A]).port = 0x0A#8 :: [] ∧ 10 ≤ (0x0A#8).toNat ∧
      (porting [0x00, 0x05]).port = 0x00#8 :: [0x05#8] ∧ (0x00#8).toNat = 0 := by decide

theorem test_ReservedOperandRefused_hypotheses :
    (4#8 >>> 2 ≠ 0#8 ∧ 255#8 >>> 2 ≠ 0#8 ∧ 3#8 >>> 2 = 0#8) ∧
      ∃ t es, Instr.WellFormed (.rdb 0xF6 2) = true ∧
        exec (.rdb 0xF6 2) (openWith [gives [0x6C, 0xFA]]) = .next t ∧
        t.record = (openWith [gives [0x6C, 0xFA]]).record ++ es ∧
        ⟨.ok, [0x6C, 0xFA]⟩ ∈ responsesOf es :=
  ⟨by decide, _, _, by decide, rfl, rfl, by decide⟩

theorem test_OpenConstructsSensor_hypotheses :
    4 ≤ (4#8).toNat ∧
      ((3#8).toNat ≤ 3 ∧ (openWith []).opened = true) ∧
      ((0#8).toNat ≤ 3 ∧ (closedWith [fails]).opened = false ∧
        (closedWith [fails]).answers = .reply .ioError :: []) ∧
      ((3#8).toNat ≤ 3 ∧ (closedWith [gives [], .never]).opened = false ∧
        (closedWith [gives [], .never]).answers = .reply (.ok []) :: [.never]) := by decide

theorem test_WriteByteOperation_hypotheses :
    State.reset.opened = false ∧
      ((openWith [fails]).opened = true ∧ (openWith [fails]).answers = .reply .ioError :: []) ∧
      ((openWith [gives []]).opened = true ∧ (openWith [gives []]).answers = .reply (.ok []) :: []) := by
  decide

theorem test_ReadBytesOperation_hypotheses :
    (0#8).toNat = 0 ∧
      ((1#8).toNat ≠ 0 ∧ State.reset.opened = false) ∧
      ((255#8).toNat ≠ 0 ∧ (openWith [fails]).opened = true ∧
        (openWith [fails]).answers = .reply .ioError :: []) ∧
      ((openWith [gives []]).opened = true ∧ (openWith [gives []]).answers = .reply (.ok []) :: [] ∧
        ([] : List Byte).length < (1#8).toNat) ∧
      ((1#8).toNat ≠ 0 ∧ (openWith [gives [7]]).opened = true ∧
        (openWith [gives [7]]).answers = .reply (.ok [7]) :: [] ∧ [7#8].length = (1#8).toNat) := by decide

theorem test_LoadCalibration_hypotheses :
    State.reset.opened = false ∧
      ((calWith ref []).opened = true ∧ (calWith ref []).cal ≠ none) ∧
      ((openWith [fails]).opened = true ∧ (openWith [fails]).cal = none ∧
        (openWith [fails]).answers = .reply .ioError :: []) ∧
      ((openWith [gives (refBytes.take 21)]).answers = .reply (.ok (refBytes.take 21)) :: [] ∧
        (refBytes.take 21).length < 22) ∧
      ((openWith [gives refBytes]).answers = .reply (.ok refBytes) :: [] ∧ refBytes.length = 22) := by decide

theorem test_TemperaturePath_hypotheses :
    State.reset.opened = false ∧
      ((openWith []).opened = true ∧ (openWith []).cal = none) ∧
      ((calWith ref [fails]).opened = true ∧ (calWith ref [fails]).cal = some ref ∧
        (calWith ref [fails]).answers = .reply .ioError :: []) ∧
      (calWith ref [gives [], fails]).answers = .reply (.ok []) :: .reply .ioError :: [] ∧
      ((calWith ref [gives [], gives [1]]).answers = .reply (.ok []) :: .reply (.ok [1]) :: [] ∧
        [1#8].length < 2) ∧
      ((calWith zero [gives [], gives [0x12, 0x34]]).answers =
          .reply (.ok []) :: .reply (.ok [0x12, 0x34]) :: [] ∧
        computeTemperature (0x12#8 ++ 0x34#8) zero = none) ∧
      ((calWith ref [gives [], gives [0x6C, 0xFA]]).answers =
          .reply (.ok []) :: .reply (.ok [0x6C, 0xFA]) :: [] ∧
        computeTemperature (0x6C#8 ++ 0xFA#8) ref = some (150, 2399)) := by decide +kernel

theorem test_PressurePath_hypotheses :
    State.reset.opened = false ∧
      ((openWith []).opened = true ∧ (openWith []).cal = none) ∧
      ((calWith ref []).opened = true ∧ (calWith ref []).cal ≠ none ∧ (calWith ref []).b5 = none) ∧
      ((latched ref 2399 3 [fails]).opened = true ∧ (latched ref 2399 3 [fails]).cal = some ref ∧
        (latched ref 2399 3 [fails]).b5 = some 2399 ∧
        (latched ref 2399 3 [fails]).answers = .reply .ioError :: []) ∧
      (latched ref 2399 3 [gives [], fails]).answers = .reply (.ok []) :: .reply .ioError :: [] ∧
      ((latched ref 2399 0 [gives [], gives [1, 2]]).answers =
          .reply (.ok []) :: .reply (.ok [1, 2]) :: [] ∧ [1#8, 2#8].length < 3) ∧
      ((latched zero 4000 0 [gives [], gives [0, 1, 0]]).answers =
          .reply (.ok []) :: .reply (.ok [0, 1, 0]) :: [] ∧
        computePressure (decodeUP [0, 1, 0] 0) 4000 zero 0 = none) ∧
      ((latched ref 2399 3 [gives [], gives [0x5D, 0x23, 0]]).answers =
          .reply (.ok []) :: .reply (.ok [0x5D, 0x23, 0]) :: [] ∧
        computePressure (decodeUP [0x5D, 0x23, 0] 3) 2399 ref 3 = some (69963, 699)) := by decide +kernel

theorem test_TemperatureOnOperand_hypotheses :
    State.reset.cal = none ∧
      ((calWith zero []).cal = some zero ∧ computeTemperature 65535 zero = none) ∧
      ((calWith ref []).cal = some ref ∧ computeTemperature 0 ref = some (-1392, -22267)) := by decide +kernel

theorem test_PressureOnOperands_hypotheses :
    4 ≤ (4#8).toNat ∧
      ((3#8).toNat ≤ 3 ∧ State.reset.cal = none) ∧
      ((0#8).toNat ≤ 3 ∧ (calWith zero []).cal = some zero ∧
        computePressure 1 4000 zero (BitVec.ofNat 2 (0#8).toNat) = none) ∧
      ((3#8).toNat ≤ 3 ∧ (calWith ref []).cal = some ref ∧
        computePressure 190744 2399 ref (BitVec.ofNat 2 (3#8).toNat) = some (69963, 699)) := by decide +kernel

theorem test_CommandsWriteTheControlRegister_hypotheses :
    State.reset.opened = false ∧
      ((openWith [fails]).opened = true ∧ (openWith [fails]).answers = .reply .ioError :: []) ∧
      (openWith [gives []]).answers = .reply (.ok []) :: [] := by decide

theorem test_AcquisitionCycleRecord_hypotheses :
    ((calWith ref []).opened = true ∧ (calWith ref []).cal = some ref) ∧
      ((calWith ref [gives [], gives [0x6C, 0xFA], gives [], gives [0x5D, 0x23, 0]]).answers =
          .reply (.ok []) :: .reply (.ok [0x6C, 0xFA]) :: .reply (.ok []) :: .reply (.ok [0x5D, 0x23, 0]) :: [] ∧
        computeTemperature (0x6C#8 ++ 0xFA#8) ref = some (150, 2399) ∧
        computePressure (decodeUP [0x5D, 0x23, 0] 0) 2399 ref 0 = some (69964, 699)) ∧
      ((calWith zero [gives [], gives [0x12, 0x34]]).cal = some zero ∧
        (calWith zero [gives [], gives [0x12, 0x34]]).answers =
          .reply (.ok []) :: .reply (.ok [0x12, 0x34]) :: [] ∧
        computeTemperature (0x12#8 ++ 0x34#8) zero = none) := by decide +kernel

theorem test_engine_hypotheses :
    (31 ≤ 31 ∧ 30 ≤ 30) ∧
      (1#32 ≠ 0#32 ∧ ¬ ((-2147483648#32).toInt = -2147483648 ∧ (1#32).toInt = -1)) ∧
      ((-1#32 : I32) ≠ 0#32 ∧ ¬ ((-2147483647#32).toInt = -2147483648 ∧ (-1#32 : I32).toInt = -1)) ∧
      ((1#32).toNat ≠ 0 ∧ (2147483647#32).toNat < 2 ^ 31) ∧
      (2 ^ 31 ≤ (2147483648#32).toNat ∧ (2#32).toNat ≠ 1) := by decide

theorem test_coefficients_in_range : ref.InRange ∧ Coeffs.InRange (decodeCal (List.replicate 22 0xFF)) := by
  unfold Coeffs.InRange
  decide +kernel

theorem test_ZeroDivisorHasNoResult_hypotheses :
    ((calWith zero []).cal = some zero ∧ tempDivisor 1234 zero = 0#32) ∧
      ((3#8).toNat ≤ 3 ∧ (calWith zero []).cal = some zero ∧ presB4 zero (presB6 4000) = 0#32) ∧
      (zero.ac5 = 0#32 ∧ zero.md = 0#32) ∧
      zero.ac4 = 0#32 ∧
      presX3b { zero with ac3 := 32767 } (-32769) = -32768#32 := by decide +kernel

theorem test_DelaysDoNotDecrease_hypotheses : (0#2).toNat ≤ (3#2).toNat := by decide

theorem test_EntryCheckChangesNothing_hypotheses :
    entryStatus (.openSensor 1 0x77 7 100000 4) (openWith []) = some .illegalOperand ∧
      entryStatus (.openSensor 1 0x77 7 100000 3) (openWith []) = some .alreadyOpen ∧
      entryStatus .ldcal (closedWith []) = some .closed ∧
      entryStatus .ldcal (calWith ref []) = some .calLocked ∧
      entryStatus .meast (openWith []) = some .uncalibrated ∧
      entryStatus .measp (calWith ref []) = some .missingDependency := by decide

/-- A run whose record grows by one response, for the statements over all instructions. -/
theorem test_run_hypotheses :
    ∃ t es, exec .meast (calWith ref [gives [], gives [0x6C, 0xFA]]) = .next t ∧
      t.record = (calWith ref []).record ++ es ∧
      (∃ r ∈ responsesOf es, r.status = .ok) ∧ Event.write 0xF4 0x2E (.ok []) ∈ es :=
  ⟨_, _, rfl, rfl, by decide +kernel, by decide +kernel⟩

/-- The same with a status other than OK. -/
theorem test_run_failed_hypotheses :
    ∃ t es, exec .meast (calWith ref [fails]) = .next t ∧ t.record = (calWith ref []).record ++ es ∧
      ∃ r ∈ responsesOf es, r.status ≠ .ok :=
  ⟨_, _, rfl, rfl, by decide +kernel⟩

theorem test_HangOnlyWhenTransportIsSilent_hypotheses :
    (Instr.isRequest .meast = true ∧ ∀ a ∈ [fails, gives [1]], a = .reply .ioError ∨ a = .reply (.ok [1])) ∧
      (firstTransaction (.rdb 0xF6 1) (openWith [.never]) .unanswered = some (.read 0xF6 1 .unanswered) ∧
        entryStatus (.rdb 0xF6 1) (openWith [.never]) = none ∧
        (openWith [.never]).answers = .never :: []) ∧
      (entryStatus .measp (latched ref 2399 3 [gives [], .never]) = none ∧
        (latched ref 2399 3 [gives [], .never]).answers = .reply (.ok []) :: .never :: []) ∧
      ({ State.reset with hung := true, resets := [.during 0 false] }.resets.headD .no ≠ .now) ∧
      ({ State.reset with hung := true, resets := [.now] }.resets.headD .no = .now) := by decide

theorem test_RequestJudgedOnRegistersAlone_hypotheses :
    (porting [0x06]).regs = State.reset.regs ∧ (porting [0x06]).answers = State.reset.answers ∧
      (porting [0x06]).draws = State.reset.draws ∧ porting [0x06] ≠ State.reset := by decide

/-- Open, calibrated, a response on record, MEAST at the port. -/
def lawful : State :=
  { latched ref 2399 0 [gives [], gives [0x6C, 0xFA]] with
    port := [0x06], record := [.read 0xAA 22 (.ok refBytes), .response ⟨.ok, payloadCal ref⟩] }

theorem test_step_hypotheses : ∃ t, step lawful = .next t ∧ lawful.opened = true := ⟨_, rfl, rfl⟩

theorem test_StepKeepsRecordLawful_hypotheses : lawful.RecordLawful := by
  intro e he
  simp only [lawful, List.mem_cons, List.not_mem_nil, or_false] at he
  rcases he with rfl | rfl
  · exact ⟨by decide, by decide, .inr (.inr ⟨refBytes, rfl, by decide⟩)⟩
  · exact fun h => absurd rfl h

theorem test_StepKeepsInvariant_hypotheses : lawful.Inv where
  latchNeedsBoth := fun _ => ⟨rfl, rfl⟩
  storeInRange := fun c hc => by
    have : ref = c := by simpa [lawful, latched, calWith] using hc
    exact this ▸ test_coefficients_in_range.1

theorem test_LatchSetOnlyByTemperaturePath_hypotheses :
    (∃ t, exec .meast lawful = .next t ∧ t.b5 = some 2399) ∧
      (∃ t, exec (.openSensor 1 0x77 7 100000 0) (closedWith [gives []]) = .next t ∧
        (closedWith [gives []]).opened = false ∧ t.opened = true) ∧
      (∃ t, exec .closeSensor lawful = .next t) ∧
      (entryStatus .meast lawful = none ∧ entryStatus .measp lawful = none ∧
        ∃ t, exec .measp lawful = .next t) :=
  ⟨⟨_, rfl, by decide +kernel⟩, ⟨_, rfl, rfl, rfl⟩, ⟨_, rfl⟩, by decide, by decide, _, rfl⟩

theorem test_StoreIsImmutable_hypotheses :
    ∃ t, exec .ldcal lawful = .next t ∧ lawful.cal = some ref := ⟨_, rfl, rfl⟩

theorem test_frames_hypotheses :
    (∃ t, exec (.wrb 0xF4 0x2E) lawful = .next t) ∧ (∃ t, exec .meast lawful = .next t) ∧
      (∃ t, exec .ldcal lawful = .next t) ∧ ∃ t, exec (.openSensor 1 0x77 7 100000 3) lawful = .next t :=
  ⟨⟨_, rfl⟩, ⟨_, rfl⟩, ⟨_, rfl⟩, _, rfl⟩

theorem test_ResetInput_hypotheses : { lawful with resets := [.now] }.resets = .now :: [] := rfl

theorem test_ResetAbandonsOperation_hypotheses :
    ((under lawful [0x06] (.during 3 false)).resets = .during 3 false :: [] ∧
        (under lawful [0x06] (.during 3 false)).hung = false ∧
        (under lawful [0x06] (.during 3 false)).ctrl = none) ∧
      decode (under lawful [0x06] (.during 3 false)).port = .operation .meast [] ∧
      decode (under lawful [0x04, 0xAA, 0x00] (.during 0 false)).port = .illegalOperand (.rdb 0xAA 0) [] ∧
      decode (under lawful [0x0A] (.during 0 false)).port = .illegalOperation 0x0A [] ∧
      { under lawful [] (.during 0 true) with ctrl := some .temperature }.ctrl = some .temperature := by decide

theorem test_ResetAbandonsOperation_run :
    ∃ u es, exec .meast { under lawful [0x06] (.during 3 false) with port := [], resets := [] } = .next u ∧
      u.record = lawful.record ++ es := ⟨_, _, rfl, rfl⟩

/-- A request that starts, for each clause of ResetAtEachMoment. -/
theorem test_ResetAtEachMoment_hypotheses :
    (under lawful [0x06] (.during 2 true)).Starts .meast [] ∧
      (under lawful [0x02] (.during 1 false)).Starts .closeSensor [] ∧
      (under lawful [0x08, 0x6C, 0xFA] (.during 0 true)).Starts (.compt 27898) [] ∧
      (under lawful [0x07] (.during 3 false)).Starts .measp [] :=
  ⟨⟨rfl, rfl, rfl⟩, ⟨rfl, rfl, rfl⟩, ⟨rfl, rfl, by decide⟩, rfl, rfl, rfl⟩

theorem test_ResetAtEachMoment_entries :
    (firstTransaction .ldcal (openWith []) .unanswered = some (.read 0xAA 22 .unanswered) ∧
        entryStatus .ldcal (openWith []) = none) ∧
      (openWith []).opened = true ∧
      (entryStatus (.openSensor 1 0x77 7 100000 3) (closedWith [gives []]) = none ∧
        (closedWith [gives []]).answers = .reply (.ok []) :: []) ∧
      (entryStatus (.wrb 0xF4 0x2E) (openWith [gives []]) = none ∧
        (openWith [gives []]).answers = .reply (.ok []) :: []) ∧
      (entryStatus (.rdb 0xF6 1) (openWith [gives [7]]) = none ∧
        (openWith [gives [7]]).answers = .reply (.ok [7]) :: [] ∧ [7#8].length ≤ (1#8).toNat) ∧
      ((openWith [gives refBytes]).answers = .reply (.ok refBytes) :: [] ∧ refBytes.length ≤ 22) ∧
      (entryStatus .meast lawful = none ∧ entryStatus .measp lawful = none ∧
        lawful.answers = .reply (.ok []) :: [.reply (.ok [0x6C, 0xFA])] ∧ [0x6C#8, 0xFA#8].length ≤ 2) := by
  decide

end Sys2Proof.Tests
end

/-! ## The engine primitives (spec/00_scope.md R6, R7) -/

section
namespace Sys2Proof.Machine

/-- Settles O20: each primitive is the bit vector operation of its law. -/
theorem enginePrimitivesWrap : Obligations.EnginePrimitivesWrap := fun a b =>
  ⟨add32_eq a b, sub32_eq a b, mul32_eq a b, fun n _ => ⟨shl32_eq a n, asr32_eq a n⟩⟩

/-- The floor of a quotient of 32-bit numbers is a 32-bit number, but for -2^31 / -1. With the signs of both turned where
the divisor is negative, the divisor is positive and floor is Euclidean division. -/
theorem fdiv_mem_i32 {a b : Int} (lo : -2147483648 ≤ a) (hi : a ≤ 2147483647) (hb : b ≠ 0)
    (hw : ¬(a = -2147483648 ∧ b = -1)) :
    -2147483648 ≤ a.fdiv b ∧ a.fdiv b ≤ 2147483647 := by
  rw [← Int.lt_add_one_iff (b := 2147483647)]
  obtain hpos | hneg : 0 < b ∨ 0 < -b := by omega
  · rw [Int.fdiv_eq_ediv_of_nonneg a hpos.le, Int.le_ediv_iff_mul_le hpos, Int.ediv_lt_iff_lt_mul hpos]
    omega
  · rw [← Int.neg_fdiv_neg, Int.fdiv_eq_ediv_of_nonneg _ hneg.le, Int.le_ediv_iff_mul_le hneg,
      Int.ediv_lt_iff_lt_mul hneg]
    omega

/-- Signed division is exact where the quotient fits (R7, R132). -/
theorem toInt_sdiv32 {a b : I32} (hb : b ≠ 0#32) (hw : ¬(a.toInt = -2147483648 ∧ b.toInt = -1)) :
    (sdiv32 a b).toInt = a.toInt.fdiv b.toInt := by
  have hb : b.toInt ≠ 0 := fun h => hb (BitVec.toInt_inj.mp h)
  obtain ⟨lo, hi⟩ := fdiv_mem_i32 (a.le_toInt) (Int.le_sub_one_of_lt a.toInt_lt) hb hw
  exact toInt_s32 _ lo hi

/-- Unsigned division is the bit vector division (R7, R133). -/
theorem udiv32_eq (a b : I32) : udiv32 a b = a / b := by
  rw [udiv32, s32, Int.fdiv_eq_ediv_of_nonneg _ (Int.natCast_nonneg _), ← Int.natCast_ediv, BitVec.ofInt_natCast,
    ← BitVec.toNat_udiv, BitVec.ofNat_toNat, BitVec.setWidth_eq]

/-- Signed division by a positive power of two is the arithmetic shift (R7). -/
theorem sdiv32_two_pow (a : I32) {n : Nat} (hn : n ≤ 30) : sdiv32 a (BitVec.ofNat 32 (2 ^ n)) = asr32 a n := by
  have h : (2 : Nat) ^ n ≤ 2 ^ 30 := Nat.pow_le_pow_right two_pos hn
  have hd : (BitVec.ofNat 32 (2 ^ n)).toInt = (2 ^ n : Nat) := by
    generalize 2 ^ n = d at h
    rw [← BitVec.ofInt_natCast]
    exact toInt_s32 _ (by omega) (by omega)
  rw [sdiv32, asr32, hd, Nat.cast_pow, Nat.cast_two]

/-- Settles O21: floor that fits but for one wrap, unsigned bit vector division, and the shift for powers of two. -/
theorem divisionPrimitives : Obligations.DivisionPrimitives :=
  ⟨fun _ _ => toInt_sdiv32, by decide, fun a b _ => by rw [udiv32_eq, BitVec.toNat_udiv],
    fun a _ => sdiv32_two_pow a⟩

end Sys2Proof.Machine
end

/-! ## A request ends in exactly one response, its last event (spec/00_scope.md R9, spec/60_exceptions.md R192) -/

section
namespace Sys2Proof.Machine

@[simp] theorem responsesOf_append (es fs : List Event) :
    responsesOf (es ++ fs) = responsesOf es ++ responsesOf fs := by
  induction es with
  | nil => rfl
  | cons e es ih => cases e <;> simp [responsesOf, ih]

/-! ### What an operation has done, and how it ends -/

/-- The operation begun in `s` has come to `u`: it has added bus events to the record, given no response, taken answers
from the front, and is not held up by the transport. -/
structure Underway (s u : State) : Prop where
  record : ∃ bus, u.record = s.record ++ bus ∧ responsesOf bus = []
  answers : u.answers <:+ s.answers
  hung : u.hung = s.hung

/-- The operation begun in `s` has ended in `t` with a response, its last event and the only one (R9). -/
def Answered (s t : State) : Prop :=
  t.hung = s.hung ∧ ∃ bus r, t.record = s.record ++ bus ++ [.response r] ∧ responsesOf bus = []

/-- The operation begun in `s` waits in `t` for a transaction the transport never answers; it has given no response
(R192). -/
def Silenced (s t : State) : Prop :=
  t.hung = true ∧ .never ∈ s.answers ∧ ∃ bus, t.record = s.record ++ bus ∧ responsesOf bus = []

/-- The two ways a request ends. -/
def Ended (s t : State) : Prop := Answered s t ∨ Silenced s t

namespace Underway

theorem refl (s : State) : Underway s s := ⟨⟨[], (List.append_nil _).symm, rfl⟩, List.suffix_refl _, rfl⟩

variable {s u : State} (h : Underway s u)
include h

/-! ### Going on: bus events and register updates -/

theorem log {e : Event} (he : responsesOf [e] = []) : Underway s (u.log e) := by
  obtain ⟨⟨bus, hrec, hbus⟩, hans, hhung⟩ := h
  exact ⟨⟨bus ++ [e], by simp [hrec], by simp [hbus, he]⟩, hans, hhung⟩

theorem afterReply {d : Nat} {e : Event} (he : responsesOf [e] = []) : Underway s (afterReply u d e) :=
  log (u := { u with answers := u.answers.tail, draws := d })
    ⟨h.record, (List.tail_suffix _).trans h.answers, h.hung⟩ he

theorem clearLatch : Underway s u.clearLatch := ⟨h.record, h.answers, h.hung⟩

theorem latch (v : I32) : Underway s (u.latch v) := ⟨h.record, h.answers, h.hung⟩

theorem populate (c : Coeffs) : Underway s (u.populate c) := ⟨h.record, h.answers, h.hung⟩

theorem release : Underway s u.release := ⟨h.record, h.answers, h.hung⟩

theorem construct (b : Byte) (a : Half) (w : Byte) (c : BitVec 32) (o : Oss) : Underway s (u.construct b a w c o) :=
  ⟨h.record, h.answers, h.hung⟩

/-! ### Ending: a response, or silence -/

theorem respond (r : Response) : Ended s (u.log (.response r)) := by
  obtain ⟨⟨bus, hrec, hbus⟩, -, hhung⟩ := h
  exact .inl ⟨hhung, bus, r, by simp [hrec], hbus⟩

theorem succeed (p : List Byte) : Ended s (u.succeed p) := h.respond _

theorem fail (st : Status) : Ended s (u.fail st) := h.respond _

theorem silenced {rest : List Answer} {e : Event} (hn : u.answers = .never :: rest) (he : responsesOf [e] = []) :
    Silenced s (afterSilence u rest e) := by
  obtain ⟨⟨bus, hrec, hbus⟩, hans, -⟩ := h
  exact ⟨rfl, hans.mem (by simp [hn]), bus ++ [e], by simp [hrec], by simp [hbus, he]⟩

/-! ### A transaction or a wait ends the operation if the rest of it does -/

theorem writeByte {addr v : Byte} {k : State → State} (hk : ∀ u', Underway s u' → Ended s (k u')) :
    Ended s (writeByte addr v u k) :=
  writeByte_cases (fun _ => (h.afterReply rfl).fail _) (fun _ => hk _ (h.afterReply rfl))
    fun _ hn => .inr (h.silenced hn rfl)

theorem busOpen {b : Byte} {a : Half} {w : Byte} {c : BitVec 32} {k : State → State}
    (hk : ∀ u', Underway s u' → Ended s (k u')) : Ended s (busOpen b a w c u k) :=
  busOpen_cases (fun _ => (h.afterReply rfl).fail _) (fun _ => hk _ (h.afterReply rfl))
    fun _ hn => .inr (h.silenced hn rfl)

theorem readExact {addr : Byte} {n : Nat} {k : List Byte → State → State}
    (hk : ∀ bs u', Underway s u' → Ended s (k bs u')) : Ended s (readExact addr n u k) :=
  readExact_cases (fun _ => (h.afterReply rfl).fail _) (fun _ _ _ => (h.afterReply rfl).fail _)
    (fun _ bs _ => hk bs _ (h.afterReply rfl)) fun _ hn => .inr (h.silenced hn rfl)

theorem waitFor {w : Wait} {k : State → State} (hk : ∀ u', Underway s u' → Ended s (k u')) :
    Ended s (waitFor w u k) :=
  hk _ (h.log rfl)

end Underway

/-! ### Each request ends -/

theorem execOpen_ended (b : Byte) (a : Half) (w : Byte) (c : BitVec 32) (m : Byte) (s : State) :
    ∃ t, execOpen b a w c m s = .next t ∧ Ended s t := by
  refine ⟨_, rfl, ?_⟩
  have hs := Underway.refl s
  split
  · exact hs.fail _
  split
  · exact hs.fail _
  · exact hs.busOpen fun _ h => (h.construct b a w c _).waitFor fun _ h => h.succeed _

theorem execClose_ended (s : State) : ∃ t, execClose s = .next t ∧ Ended s t := by
  refine ⟨_, rfl, ?_⟩
  have hs := Underway.refl s
  split
  · exact (hs.log rfl).release.succeed _
  · exact hs.release.succeed _

theorem execWrb_ended (reg val : Byte) (s : State) : ∃ t, execWrb reg val s = .next t ∧ Ended s t := by
  refine ⟨_, rfl, ?_⟩
  have hs := Underway.refl s
  split
  · exact hs.fail _
  · exact hs.writeByte fun _ h => h.succeed _

theorem execRdb_ended (reg len : Byte) (s : State) : ∃ t, execRdb reg len s = .next t ∧ Ended s t := by
  refine ⟨_, rfl, ?_⟩
  have hs := Underway.refl s
  split
  · exact hs.fail _
  split
  · exact hs.fail _
  · exact hs.readExact fun _ _ h => h.succeed _

theorem execLdcal_ended (s : State) : ∃ t, execLdcal s = .next t ∧ Ended s t := by
  refine ⟨_, rfl, ?_⟩
  have hs := Underway.refl s
  split
  · exact hs.fail _
  split
  · exact hs.fail _
  · exact hs.readExact fun _ _ h => (h.populate _).succeed _

theorem execMeast_ended (s : State) : ∃ t, execMeast s = .next t ∧ Ended s t := by
  refine ⟨_, rfl, ?_⟩
  have hs := Underway.refl s
  split
  · exact hs.fail _
  split
  · exact hs.fail _
  · refine hs.clearLatch.writeByte fun _ h => h.waitFor fun _ h => h.readExact fun _ _ h => ?_
    split
    · exact h.fail _
    · exact (h.latch _).succeed _

theorem execMeasp_ended (s : State) : ∃ t, execMeasp s = .next t ∧ Ended s t := by
  refine ⟨_, rfl, ?_⟩
  have hs := Underway.refl s
  split
  · exact hs.fail _
  split
  · exact hs.fail _
  split
  · exact hs.fail _
  · refine hs.clearLatch.writeByte fun _ h => h.waitFor fun _ h => h.readExact fun _ _ h => ?_
    split
    · exact h.fail _
    · exact h.succeed _

theorem execCompt_ended (ut : Half) (s : State) : ∃ t, execCompt ut s = .next t ∧ Ended s t := by
  refine ⟨_, rfl, ?_⟩
  have hs := Underway.refl s
  split
  · exact hs.fail _
  split
  · exact hs.fail _
  · exact hs.succeed _

theorem execCompp_ended (up b5 : I32) (m : Byte) (s : State) : ∃ t, execCompp up b5 m s = .next t ∧ Ended s t := by
  refine ⟨_, rfl, ?_⟩
  have hs := Underway.refl s
  split
  · exact hs.fail _
  split
  · exact hs.fail _
  split
  · exact hs.fail _
  · exact hs.succeed _

theorem exec_request_ended {i : Instr} (hi : i.isRequest = true) (s : State) :
    ∃ t, exec i s = .next t ∧ Ended s t := by
  cases i with
  | openSensor b a w c m => exact execOpen_ended b a w c m s
  | closeSensor => exact execClose_ended s
  | wrb reg val => exact execWrb_ended reg val s
  | rdb reg len => exact execRdb_ended reg len s
  | ldcal => exact execLdcal_ended s
  | meast => exact execMeast_ended s
  | measp => exact execMeasp_ended s
  | compt ut => exact execCompt_ended ut s
  | compp up b5 m => exact execCompp_ended up b5 m s
  | cmdTemp | cmdPres => cases hi

/-! ### An emitted command gives no response -/

theorem emitCommand_record (c : Command) (s : State) :
    ∃ es, (emitCommand c s).record = s.record ++ es ∧ responsesOf es = [] := by
  unfold emitCommand
  split
  · exact transact_cases (P := fun t => ∃ es, t.record = s.record ++ es ∧ responsesOf es = [])
      (fun _ _ => ⟨[_], rfl, rfl⟩) fun _ _ => ⟨[_], rfl, rfl⟩
  · exact ⟨[], (List.append_nil _).symm, rfl⟩

theorem exec_emitted {i : Instr} (hi : i.isRequest = false) (s : State) :
    ∃ c, exec i s = .next (emitCommand c s) := by
  cases i with
  | cmdTemp => exact ⟨.temperature, rfl⟩
  | cmdPres oss => exact ⟨.pressure oss, rfl⟩
  | _ => cases hi

/-- Settles O33: a request ends answered or silenced, and an emitted command adds its one write. -/
theorem exactlyOneResponse : Obligations.ExactlyOneResponse := by
  intro i s t hexec
  cases hi : i.isRequest with
  | true =>
    obtain ⟨u, hu, hend⟩ := exec_request_ended hi s
    obtain rfl : t = u := Host.Outcome.next.inj (hexec.symm.trans hu)
    rcases hend with ⟨-, bus, r, hrec, hbus⟩ | ⟨hhung, hnever, bus, hrec, hbus⟩
    · exact ⟨bus ++ [.response r], by rw [hrec, List.append_assoc], .inl ⟨rfl, bus, r, rfl, hbus⟩⟩
    · exact ⟨bus, hrec, .inr (.inr ⟨hhung, hnever, hbus⟩)⟩
  | false =>
    obtain ⟨c, hc⟩ := exec_emitted hi s
    obtain rfl : t = emitCommand c s := Host.Outcome.next.inj (hexec.symm.trans hc)
    obtain ⟨es, hrec, hes⟩ := emitCommand_record c s
    exact ⟨es, hrec, .inr (.inl ⟨rfl, hes⟩)⟩

end Sys2Proof.Machine
end

/-! ## The registers: what each operation may change, and what every step keeps (spec/10_state.md R26 to R28, R36) -/

section
namespace Sys2Proof.Machine

/-! ### An operation under way, by its registers -/

/-- The operation begun in `s` has come to `u`: the registers hold `r`, the environment is as in every frame. -/
structure Reached (s : State) (r : Regs) (u : State) : Prop where
  env : EnvFrame s u
  regs : u.regs = r

namespace Reached

theorem refl (s : State) : Reached s s.regs s := ⟨⟨rfl, rfl, rfl, List.suffix_refl _, List.prefix_refl _⟩, rfl⟩

variable {s u : State} {r : Regs} (h : Reached s r u)
include h

/-! #### Events and answers leave the registers -/

theorem log (e : Event) : Reached s r (u.log e) :=
  ⟨{ h.env with record := h.env.record.trans (List.prefix_append _ _) }, h.regs⟩

theorem succeed (p : List Byte) : Reached s r (u.succeed p) := h.log _

theorem fail (st : Status) : Reached s r (u.fail st) := h.log _

theorem afterReply (d : Nat) (e : Event) : Reached s r (afterReply u d e) :=
  log (u := { u with answers := u.answers.tail, draws := d })
    ⟨{ h.env with answers := (List.tail_suffix _).trans h.env.answers }, h.regs⟩ e

theorem afterSilence {rest : List Answer} (hn : u.answers = .never :: rest) (e : Event) :
    Reached s r (afterSilence u rest e) :=
  have hrest : rest <:+ u.answers := hn ▸ List.suffix_cons _ _
  log (u := { u with answers := rest, hung := true }) ⟨{ h.env with answers := hrest.trans h.env.answers }, h.regs⟩ e

/-! #### The register updates -/

theorem clearLatch : Reached s { r with b5 := none } u.clearLatch := ⟨{ h.env with }, by simp [h.regs]⟩

theorem latch (v : I32) : Reached s { r with b5 := some v } (u.latch v) := ⟨{ h.env with }, by simp [h.regs]⟩

theorem populate (c : Coeffs) : Reached s { r with cal := some c } (u.populate c) :=
  ⟨{ h.env with }, by simp [h.regs]⟩

theorem release : Reached s { r with opened := false, b5 := none } u.release := ⟨{ h.env with }, by simp [h.regs]⟩

theorem construct (b : Byte) (a : Half) (w : Byte) (c : BitVec 32) (o : Oss) :
    Reached s ⟨true, b, a, w, c, o, none, none⟩ (u.construct b a w c o) := ⟨{ h.env with }, rfl⟩

/-! #### A transaction stops with the registers as they are, or goes on -/

variable {P : State → Prop} (stop : ∀ t, Reached s r t → P t)
include stop

theorem writeByte {addr v : Byte} {k : State → State} (go : ∀ u', Reached s r u' → P (k u')) :
    P (writeByte addr v u k) :=
  writeByte_cases (fun _ => stop _ ((h.afterReply _ _).fail _)) (fun _ => go _ (h.afterReply _ _))
    fun _ hn => stop _ (h.afterSilence hn _)

theorem busOpen {b : Byte} {a : Half} {w : Byte} {c : BitVec 32} {k : State → State}
    (go : ∀ u', Reached s r u' → P (k u')) : P (busOpen b a w c u k) :=
  busOpen_cases (fun _ => stop _ ((h.afterReply _ _).fail _)) (fun _ => go _ (h.afterReply _ _))
    fun _ hn => stop _ (h.afterSilence hn _)

theorem readExact {addr : Byte} {n : Nat} {k : List Byte → State → State}
    (go : ∀ bs u', bs.length = n → Reached s r u' → P (k bs u')) : P (readExact addr n u k) :=
  readExact_cases (fun _ => stop _ ((h.afterReply _ _).fail _)) (fun _ _ _ => stop _ ((h.afterReply _ _).fail _))
    (fun _ bs hlen => go bs _ hlen (h.afterReply _ _)) fun _ hn => stop _ (h.afterSilence hn _)

end Reached

/-! ### What an instruction can do to the registers -/

/-- The two operations that use up the latch once their entry checks pass (R162, R163). -/
def measures : Instr → Bool
  | .meast => true
  | .measp => true
  | _ => false

/-- How the registers in `t` differ from those in `s` when the instruction has run from `s` to `t` (R36): one constructor for
each way of writing them. -/
inductive RegsEffect (s t : State) : Instr → Prop where
  | unchanged {i : Instr} (notMeasuring : entryStatus i s = none → measures i = false) (regs : t.regs = s.regs) :
      RegsEffect s t i
  | constructed {b : Byte} {a : Half} {w : Byte} {c : BitVec 32} {m : Byte} (closed : s.opened = false)
      (regs : t.regs = ⟨true, b, a, w, c, modeOss m, none, none⟩)
      (ended : t.record.getLast? = some (.response ⟨.ok, []⟩)) : RegsEffect s t (.openSensor b a w c m)
  | released (regs : t.regs = { s.regs with opened := false, b5 := none }) : RegsEffect s t .closeSensor
  | populated (bs : List Byte) (empty : s.cal = none) (whole : bs.length = 22)
      (regs : t.regs = { s.regs with cal := some (decodeCal bs) })
      (ended : t.record.getLast? = some (.response ⟨.ok, payloadCal (decodeCal bs)⟩)) : RegsEffect s t .ldcal
  | latchCleared {i : Instr} (measuring : measures i = true) (regs : t.regs = { s.regs with b5 := none }) :
      RegsEffect s t i
  | latched {c : Coeffs} {ut : Half} {t10 v : I32} (opened : s.opened = true) (store : s.cal = some c)
      (computed : computeTemperature ut c = some (t10, v)) (regs : t.regs = { s.regs with b5 := some v })
      (ended : t.record.getLast? = some (.response ⟨.ok, payloadMeast t10 v ut⟩)) : RegsEffect s t .meast

/-- What an instruction does to the environment and to the registers (R36). -/
structure Effect (i : Instr) (s t : State) : Prop where
  env : EnvFrame s t
  regs : RegsEffect s t i

section
variable {i : Instr} {s t : State}

/-- An operation that ends with the registers it began with. -/
theorem Reached.same (h : Reached s s.regs t) (hi : measures i = false) : Effect i s t :=
  ⟨h.env, .unchanged (fun _ => hi) h.regs⟩

/-- An operation an entry check refuses. -/
theorem effect_refused (st : Status) (hi : entryStatus i s ≠ none) : Effect i s (s.fail st) :=
  have h := (Reached.refl s).fail st
  ⟨h.env, .unchanged (fun hn => absurd hn hi) h.regs⟩

/-- A measurement that ends without a B5. -/
theorem Reached.cleared (h : Reached s { s.regs with b5 := none } t) (hi : measures i = true) : Effect i s t :=
  ⟨h.env, .latchCleared hi h.regs⟩

end

theorem execOpen_effect {b : Byte} {a : Half} {w : Byte} {c : BitVec 32} {m : Byte} {s t : State}
    (h : execOpen b a w c m s = .next t) : Effect (.openSensor b a w c m) s t := by
  obtain rfl := Host.Outcome.next.inj h
  have hs := Reached.refl s
  split
  · exact (hs.fail _).same rfl
  split
  · exact (hs.fail _).same rfl
  · next ho =>
    refine hs.busOpen (fun _ h => h.same rfl) fun _ h => ?_
    have h := ((h.construct b a w c (modeOss m)).log (.wait .settle)).succeed []
    exact ⟨h.env, .constructed (by simpa using ho) h.regs (by simp [waitFor])⟩

/-- CLOSE takes no answer: BusClose yields nothing (R66). -/
theorem execClose_answers {s t : State} (h : execClose s = .next t) : t.answers = s.answers := by
  obtain rfl := Host.Outcome.next.inj h
  split <;> rfl

theorem execClose_regs {s t : State} (h : execClose s = .next t) :
    t.regs = { s.regs with opened := false, b5 := none } := by
  obtain rfl := Host.Outcome.next.inj h
  split <;> rfl

theorem execClose_effect {s t : State} (h : execClose s = .next t) : Effect .closeSensor s t := by
  refine ⟨?_, .released (execClose_regs h)⟩
  obtain rfl := Host.Outcome.next.inj h
  have hs := Reached.refl s
  split
  · exact ((hs.log .busClose).release.succeed []).env
  · exact (hs.release.succeed []).env

theorem execWrb_effect {reg val : Byte} {s t : State} (h : execWrb reg val s = .next t) :
    Effect (.wrb reg val) s t := by
  obtain rfl := Host.Outcome.next.inj h
  have hs := Reached.refl s
  split
  · exact (hs.fail _).same rfl
  · exact hs.writeByte (fun _ h => h.same rfl) fun _ h => (h.succeed _).same rfl

theorem execRdb_effect {reg len : Byte} {s t : State} (h : execRdb reg len s = .next t) :
    Effect (.rdb reg len) s t := by
  obtain rfl := Host.Outcome.next.inj h
  have hs := Reached.refl s
  split
  · exact (hs.fail _).same rfl
  split
  · exact (hs.fail _).same rfl
  · exact hs.readExact (fun _ h => h.same rfl) fun _ _ _ h => (h.succeed _).same rfl

theorem execLdcal_effect {s t : State} (h : execLdcal s = .next t) : Effect .ldcal s t := by
  obtain rfl := Host.Outcome.next.inj h
  have hs := Reached.refl s
  split
  · exact (hs.fail _).same rfl
  split
  · exact (hs.fail _).same rfl
  · next hc =>
    refine hs.readExact (fun _ h => h.same rfl) fun bs _ hlen h => ?_
    have h := (h.populate (decodeCal bs)).succeed (payloadCal (decodeCal bs))
    exact ⟨h.env, .populated bs (by simpa using hc) hlen h.regs (by simp)⟩

theorem execMeast_effect {s t : State} (h : execMeast s = .next t) : Effect .meast s t := by
  obtain rfl := Host.Outcome.next.inj h
  have hs := Reached.refl s
  split
  · next ho =>
    have ho : s.opened = false := by simpa using ho
    exact effect_refused _ (by simp [entryStatus, Instr.WellFormed, ho])
  next ho =>
  have ho : s.opened = true := by simpa using ho
  split
  · next hc => exact effect_refused _ (by simp [entryStatus, Instr.WellFormed, ho, hc])
  · next c hc =>
    refine hs.clearLatch.writeByte (fun _ h => h.cleared rfl) fun _ h => ?_
    refine (h.log (.wait .temp)).readExact (fun _ h => h.cleared rfl) fun bs _ _ h => ?_
    split
    · exact (h.fail _).cleared rfl
    · next t10 b5 hcomp =>
      have h := (h.latch b5).succeed (payloadMeast t10 b5 (decodeUT bs))
      exact ⟨h.env, .latched ho hc hcomp h.regs (by simp)⟩

theorem execMeasp_effect {s t : State} (h : execMeasp s = .next t) : Effect .measp s t := by
  obtain rfl := Host.Outcome.next.inj h
  have hs := Reached.refl s
  split
  · next ho =>
    have ho : s.opened = false := by simpa using ho
    exact effect_refused _ (by simp [entryStatus, Instr.WellFormed, ho])
  next ho =>
  have ho : s.opened = true := by simpa using ho
  split
  · next hc => exact effect_refused _ (by simp [entryStatus, Instr.WellFormed, ho, hc])
  next hc =>
  split
  · next hb => exact effect_refused _ (by simp [entryStatus, Instr.WellFormed, ho, hc, hb])
  · refine hs.clearLatch.writeByte (fun _ h => h.cleared rfl) fun _ h => ?_
    refine (h.log (.wait (.delay s.oss))).readExact (fun _ h => h.cleared rfl) fun _ _ _ h => ?_
    split
    · exact (h.fail _).cleared rfl
    · exact (h.succeed _).cleared rfl

theorem execCompt_effect {ut : Half} {s t : State} (h : execCompt ut s = .next t) : Effect (.compt ut) s t := by
  obtain rfl := Host.Outcome.next.inj h
  have hs := Reached.refl s
  split
  · exact (hs.fail _).same rfl
  split
  · exact (hs.fail _).same rfl
  · exact (hs.succeed _).same rfl

theorem execCompp_effect {up b5 : I32} {m : Byte} {s t : State} (h : execCompp up b5 m s = .next t) :
    Effect (.compp up b5 m) s t := by
  obtain rfl := Host.Outcome.next.inj h
  have hs := Reached.refl s
  split
  · exact (hs.fail _).same rfl
  split
  · exact (hs.fail _).same rfl
  split
  · exact (hs.fail _).same rfl
  · exact (hs.succeed _).same rfl

theorem emitCommand_reached (c : Command) (s : State) : Reached s s.regs (emitCommand c s) := by
  have hs := Reached.refl s
  unfold emitCommand
  split
  · exact transact_cases (P := Reached s s.regs) (fun _ _ => hs.afterReply _ _) fun _ hn => hs.afterSilence hn _
  · exact hs

/-- The ways of every instruction. -/
theorem exec_effect {i : Instr} {s t : State} (h : exec i s = .next t) : Effect i s t := by
  cases i with
  | openSensor => exact execOpen_effect h
  | closeSensor => exact execClose_effect h
  | wrb => exact execWrb_effect h
  | rdb => exact execRdb_effect h
  | ldcal => exact execLdcal_effect h
  | meast => exact execMeast_effect h
  | measp => exact execMeasp_effect h
  | compt => exact execCompt_effect h
  | compp => exact execCompp_effect h
  | cmdTemp =>
    obtain rfl := Host.Outcome.next.inj h
    exact (emitCommand_reached _ s).same rfl
  | cmdPres =>
    obtain rfl := Host.Outcome.next.inj h
    exact (emitCommand_reached _ s).same rfl

/-! ### The frames (R36) -/

/-- Settles O44: none of the six is an operation that writes registers. -/
theorem frameOfOperationsWithoutState : Obligations.FrameOfOperationsWithoutState := by
  intro i s t hi hexec
  have heff := exec_effect hexec
  refine ⟨?_, heff.env⟩
  have hm : measures i = false := by
    rcases hi with ⟨r, v, rfl⟩ | ⟨r, n, rfl⟩ | ⟨u, rfl⟩ | ⟨p, f, m, rfl⟩ | rfl | ⟨o, rfl⟩ <;> rfl
  cases heff.regs with
  | unchanged _ regs => exact regs
  | latchCleared measuring => simp [hm] at measuring
  | constructed | released | populated | latched => simp at hi

/-- Settles O45: each way a measurement ends leaves every register but the latch. -/
theorem frameOfMeasurements : Obligations.FrameOfMeasurements := by
  intro i s t hi hexec
  have heff := exec_effect hexec
  refine ⟨?_, heff.env⟩
  change t.regs = { s.regs with b5 := t.regs.b5 }
  cases heff.regs with
  | unchanged _ regs | latchCleared _ regs | latched _ _ _ regs => rw [regs]
  | constructed | released | populated => simp at hi

/-- Settles O46: LDCAL ends with the registers it began with, or populates the empty store. -/
theorem frameOfLoad : Obligations.FrameOfLoad := by
  intro s t hexec
  have heff := exec_effect hexec
  refine ⟨heff.env, ?_⟩
  cases heff.regs with
  | unchanged _ regs => exact .inl regs
  | populated bs empty whole regs ended => exact .inr ⟨bs, empty, whole, regs, ended⟩
  | latchCleared measuring => cases measuring

theorem modeOss_eq_ofNat (m : Byte) : modeOss m = BitVec.ofNat 2 m.toNat :=
  BitVec.eq_of_toNat_eq (by rw [modeOss_toNat, BitVec.toNat_ofNat])

/-- Settles O47: OPEN constructs from a closed state or leaves the registers; CLOSE releases and takes no answer. -/
theorem frameOfOpenAndClose : Obligations.FrameOfOpenAndClose := by
  refine ⟨fun b a w c m s t hexec => ?_, fun s t hexec => ?_⟩
  · have heff := exec_effect hexec
    refine ⟨heff.env, ?_⟩
    cases heff.regs with
    | unchanged _ regs => exact .inl regs
    | constructed closed regs ended => exact .inr ⟨closed, by rw [regs, modeOss_eq_ofNat], ended⟩
    | latchCleared measuring => cases measuring
  · exact ⟨(exec_effect hexec).env, execClose_answers hexec, execClose_regs hexec⟩

/-! ### The latch (R27) -/

/-- A latch that holds a value after an instruction held it before, or MEAST has just ended OK with it. -/
theorem RegsEffect.latch_origin {i : Instr} {s t : State} {v : I32} (h : RegsEffect s t i) (hv : t.b5 = some v) :
    s.b5 = some v ∨
      (i = .meast ∧ ∃ c ut t10, s.cal = some c ∧ computeTemperature ut c = some (t10, v) ∧
        t.record.getLast? = some (.response ⟨.ok, payloadMeast t10 v ut⟩)) := by
  change t.regs.b5 = some v at hv
  cases h with
  | unchanged _ regs | populated _ _ _ regs => exact .inl (by rwa [regs] at hv)
  | constructed _ regs | released regs | latchCleared _ regs => simp [regs] at hv
  | latched _ store computed regs ended =>
    obtain rfl : _ = v := by simpa [regs] using hv
    exact .inr ⟨rfl, _, _, _, store, computed, ended⟩

/-- The instruction that opens the block leaves the latch empty. -/
theorem RegsEffect.latch_none_of_opens {i : Instr} {s t : State} (h : RegsEffect s t i) (hs : s.opened = false)
    (ht : t.opened = true) : t.b5 = none := by
  change s.regs.opened = false at hs
  change t.regs.opened = true at ht
  change t.regs.b5 = none
  cases h with
  | constructed _ regs | latchCleared _ regs => rw [regs]
  | unchanged _ regs | populated _ _ _ regs | latched _ _ _ regs => simp [regs, hs] at ht
  | released regs => simp [regs] at ht

/-- A measurement that passes its entry checks leaves the latch empty, or is a MEAST that ends OK. -/
theorem RegsEffect.latch_none_or_ok {i : Instr} {s t : State} (h : RegsEffect s t i) (hi : measures i = true)
    (hpass : entryStatus i s = none) :
    t.b5 = none ∨ (i = .meast ∧ ∃ p, t.record.getLast? = some (.response ⟨.ok, p⟩)) := by
  cases h with
  | unchanged notMeasuring => simp [notMeasuring hpass] at hi
  | latchCleared _ regs => exact .inl (congrArg Regs.b5 regs)
  | latched _ _ _ _ ended => exact .inr ⟨rfl, _, ended⟩
  | constructed | released | populated => cases hi

/-- Settles O41: an instruction's effect on the registers says where a latched value comes from and when none is left. -/
theorem latchSetOnlyByTemperaturePath : Obligations.LatchSetOnlyByTemperaturePath := by
  refine ⟨fun i s t v hexec => (exec_effect hexec).regs.latch_origin, fun s => rfl, fun s n o bus => rfl,
    fun i s t hexec => (exec_effect hexec).regs.latch_none_of_opens,
    fun s t hexec => congrArg Regs.b5 (execClose_regs hexec), fun s t v hpass hexec hv => ?_,
    fun s t hpass hexec => ?_⟩
  · rcases (exec_effect hexec).regs.latch_none_or_ok rfl hpass with hnone | ⟨-, ended⟩
    · simp [hnone] at hv
    · exact ended
  · exact ((exec_effect hexec).regs.latch_none_or_ok rfl hpass).resolve_right fun h => nomatch h.1

/-! ### What a step does to the registers -/

/-- The ways of a step, as to the registers: a reset took the block, or the registers stay, or an instruction ran to its end
from a state with the same registers. -/
theorem step_regs_cases {s t : State} (h : step s = .next t) :
    (t.InReset ∧ s.resets.headD .no ≠ .no) ∨ t.regs = s.regs ∨
      ∃ i u, u.regs = s.regs ∧ exec i u = .next t := by
  rcases step_cases h with ⟨hr, rfl⟩ | ⟨i, p, c, u, -, hu, rfl | ⟨hr, n, o, rfl⟩⟩ |
    ⟨p, -, rfl | ⟨hr, n, o, rfl⟩⟩ | rfl
  · exact .inl ⟨⟨rfl, rfl, rfl⟩, by rw [hr]; nofun⟩
  · exact .inr (.inr ⟨i, { s with port := p, ctrl := c, resets := s.resets.tail }, rfl, hu⟩)
  · exact .inl ⟨⟨rfl, rfl, rfl⟩, hr⟩
  · exact .inr (.inl rfl)
  · exact .inl ⟨⟨rfl, rfl, rfl⟩, hr⟩
  · exact .inr (.inl rfl)

/-! ### The store and the handle (R21, R23, R26) -/

/-- A populated store stays, or a successful OPEN empties it. -/
theorem RegsEffect.store_kept {i : Instr} {s t : State} {c : Coeffs} (h : RegsEffect s t i) (hc : s.cal = some c) :
    t.cal = some c ∨
      (∃ b a w k m, i = .openSensor b a w k m ∧ s.opened = false ∧ t.opened = true ∧ t.cal = none) := by
  cases h with
  | unchanged _ regs | released regs | latchCleared _ regs | latched _ _ _ regs =>
    exact .inl ((congrArg Regs.cal regs).trans hc)
  | constructed closed regs =>
    exact .inr ⟨_, _, _, _, _, rfl, closed, congrArg Regs.opened regs, congrArg Regs.cal regs⟩
  | populated _ empty => simp [empty] at hc

/-- Settles O42: no instruction but a successful OPEN, and no step but that OPEN's or a reset, touches a populated store. -/
theorem storeIsImmutable : Obligations.StoreIsImmutable := by
  refine ⟨fun i s t c hexec => (exec_effect hexec).regs.store_kept, fun s t c hstep hc => ?_⟩
  rcases step_regs_cases hstep with hreset | regs | ⟨i, u, hu, hexec⟩
  · exact .inr (.inr hreset)
  · exact .inl ((congrArg Regs.cal regs).trans hc)
  · rcases (exec_effect hexec).regs.store_kept ((congrArg Regs.cal hu).trans hc) with
      hkept | ⟨-, -, -, -, -, -, hclosed, hopen, hnone⟩
    · exact .inl hkept
    · exact .inr (.inl ⟨(congrArg Regs.opened hu).symm.trans hclosed, hopen, hnone⟩)

/-- The four handle fields and OSS (R21, R23), among the registers. -/
def Regs.handle (r : Regs) : Byte × Half × Byte × BitVec 32 × Oss :=
  (r.hBusId, r.hDevAddr, r.hAddrBits, r.hClockHz, r.oss)

theorem RegsEffect.handle_kept {i : Instr} {s t : State} (h : RegsEffect s t i) (ho : s.opened = true) :
    t.regs.handle = s.regs.handle := by
  cases h with
  | unchanged _ regs | released regs | populated _ _ _ regs | latchCleared _ regs | latched _ _ _ regs =>
    exact (congrArg Regs.handle regs).trans rfl
  | constructed closed => simp [ho] at closed

/-- Settles O43: only an OPEN from a closed state writes the handle. -/
theorem handleFixedWhileOpen : Obligations.HandleFixedWhileOpen := by
  intro s t hstep ho
  refine (step_regs_cases hstep).symm.imp_left fun hrun => ?_
  have hkept : t.regs.handle = s.regs.handle := by
    rcases hrun with regs | ⟨i, u, hu, hexec⟩
    · rw [regs]
    · rw [← hu]
      exact (exec_effect hexec).regs.handle_kept ((congrArg Regs.opened hu).trans ho)
  simpa [Regs.handle, State.regs] using hkept

/-! ### The invariant (R28) -/

theorem inRange_decS16 (hi lo : Byte) : inRange (-32768) 32767 (decS16 hi lo) = true := by
  have hle := (be16 hi lo).le_toInt
  have hlt := (be16 hi lo).toInt_lt
  rw [inRange, decS16, BitVec.toInt_signExtend_of_le (by decide)]
  simp only [Bool.and_eq_true, decide_eq_true_eq]
  omega

theorem inRange_decU16 (hi lo : Byte) : inRange 0 65535 (decU16 hi lo) = true := by
  have hlt := (be16 hi lo).isLt
  rw [inRange, decU16, BitVec.toInt_setWidth]
  simp only [Bool.and_eq_true, decide_eq_true_eq, Int.bmod]
  omega

theorem decodeCal_inRange (bs : List Byte) : (decodeCal bs).InRange := by
  simp only [Coeffs.InRange, decodeCal, inRange_decS16, inRange_decU16, and_self]

/-- The invariant speaks of the registers alone. -/
def Regs.Inv (r : Regs) : Prop :=
  (r.b5.isSome → r.opened ∧ r.cal.isSome) ∧ ∀ c, r.cal = some c → c.InRange

theorem State.inv_iff (s : State) : s.Inv ↔ s.regs.Inv := ⟨fun h => ⟨h.1, h.2⟩, fun h => ⟨h.1, h.2⟩⟩

theorem State.InReset.inv {s : State} (h : s.InReset) : s.Inv :=
  ⟨by simp [h.noLatch], by simp [h.noStore]⟩

theorem RegsEffect.inv {i : Instr} {s t : State} (h : RegsEffect s t i) (hs : s.Inv) : t.Inv := by
  obtain ⟨hlatch, hrange⟩ := hs
  rw [State.inv_iff]
  cases h with
  | unchanged _ regs =>
    rw [regs]
    exact ⟨hlatch, hrange⟩
  | constructed _ regs =>
    rw [regs]
    exact ⟨nofun, nofun⟩
  | released regs | latchCleared _ regs =>
    rw [regs]
    exact ⟨nofun, hrange⟩
  | populated bs _ _ regs =>
    rw [regs]
    refine ⟨fun hb => ⟨(hlatch hb).1, rfl⟩, fun c hc => ?_⟩
    obtain rfl := Option.some.inj hc
    exact decodeCal_inRange bs
  | latched opened store _ regs =>
    rw [regs]
    exact ⟨fun _ => ⟨opened, Option.isSome_iff_exists.mpr ⟨_, store⟩⟩, hrange⟩

/-- Settles O39: a reset meets the invariant, and each way an instruction writes the registers keeps it. -/
theorem stepKeepsInvariant : Obligations.StepKeepsInvariant := by
  intro s t hs hstep
  rcases step_regs_cases hstep with ⟨hreset, -⟩ | regs | ⟨i, u, hu, hexec⟩
  · exact hreset.inv
  · rwa [State.inv_iff, regs, ← State.inv_iff]
  · exact (exec_effect hexec).regs.inv (by rwa [State.inv_iff, hu, ← State.inv_iff])

/-! ### After reset (R35) -/

theorem reset_inReset : State.reset.InReset := ⟨rfl, rfl, rfl⟩

/-- Settles O40: the reset state has no latch and no store, and its record is empty. -/
theorem resetMeetsInvariants : Obligations.ResetMeetsInvariants := ⟨reset_inReset.inv, nofun⟩

/-- Settles O48: the reset state is in reset, with nothing recorded. -/
theorem stateAfterReset : Obligations.StateAfterReset := ⟨reset_inReset, rfl⟩

end Sys2Proof.Machine
end

/-! ## Requests and command bytes: the decoder and the encoder (spec/30_encoding.md R71 to R84) -/

section
namespace Sys2Proof.Machine

open Sys2Proof.Laws

/-! ### Every request's bytes decode to it -/

/-- Decoding the bytes of a request, whatever follows, leaves the operand check (R77). -/
theorem decode_encode_append {i : Instr} (hi : i.isRequest = true) (rest : List Byte) :
    decode (encode i ++ rest) = classify i rest := by
  cases i with
  | openSensor => simp [encode, bytes16, bytes32, decode, decodeOpen, be16_bytes, be32_bytes]
  | compt => simp [encode, bytes16, decode, decodeCompt, be16_bytes]
  | compp => simp [encode, bytes32, decode, decodeCompp, be32_bytes]
  | closeSensor | wrb | rdb | ldcal | meast | measp => rfl
  | cmdTemp | cmdPres => cases hi

theorem decode_encode_legal {i : Instr} (hi : i.isRequest = true) (hw : i.WellFormed = true) (rest : List Byte) :
    decode (encode i ++ rest) = .operation i rest := by
  rw [decode_encode_append hi, classify, legalOperands_eq_wellFormed, if_pos hw]

/-! ### The opcodes and the lengths -/

theorem reserved_iff (op : Byte) :
    op.toNat = 0 ∨ 10 ≤ op.toNat ↔
      op ≠ 1#8 ∧ op ≠ 2#8 ∧ op ≠ 3#8 ∧ op ≠ 4#8 ∧ op ≠ 5#8 ∧ op ≠ 6#8 ∧ op ≠ 7#8 ∧ op ≠ 8#8 ∧ op ≠ 9#8 := by
  simp only [ne_eq, ← BitVec.toNat_inj, BitVec.toNat_ofNat]
  omega

theorem decode_reserved {op : Byte} (hop : op.toNat = 0 ∨ 10 ≤ op.toNat) (rest : List Byte) :
    decode (op :: rest) = .illegalOperation op rest := by
  simp [decode, (reserved_iff op).mp hop]

theorem requestLength_reserved {op : Byte} (hop : op.toNat = 0 ∨ 10 ≤ op.toNat) : requestLength op = 1 := by
  simp [requestLength, (reserved_iff op).mp hop]

/-- An instruction's bytes are as many as its opcode byte announces (R73). -/
theorem encode_length (i : Instr) : (encode i).length = requestLength ((encode i).headD 0#8) := by
  cases i with
  | openSensor b a w c m => exact RequestLength.openSensor b a w c m
  | closeSensor => exact RequestLength.closeSensor
  | wrb r v => exact RequestLength.wrb r v
  | rdb r n => exact RequestLength.rdb r n
  | ldcal => exact RequestLength.ldcal
  | meast => exact RequestLength.meast
  | measp => exact RequestLength.measp
  | compt u => exact RequestLength.compt u
  | compp p f m => exact RequestLength.compp p f m
  | cmdTemp => exact RequestLength.cmdTemp
  | cmdPres o => exact RequestLength.cmdPres o

theorem encode_ne_nil (i : Instr) : encode i ≠ [] := by
  cases i <;> exact List.cons_ne_nil _ _

/-- The byte that stands first announces the length of the request that stands first. -/
theorem requestLength_headD_encode_append (i : Instr) (rest : List Byte) :
    requestLength ((encode i ++ rest).headD 0#8) = (encode i).length := by
  rw [encode_length]
  cases h : encode i with
  | nil => exact absurd h (encode_ne_nil i)
  | cons op args => rfl

/-! ### What the decoder can answer -/

/-- The answers of the decoder on the bytes `bs`, each with what it says of them (R84). -/
inductive Decodes (bs : List Byte) : Decoded → Prop where
  | operation {i : Instr} {rest : List Byte} (request : i.isRequest = true) (legal : i.WellFormed = true)
      (bytes : bs = encode i ++ rest) : Decodes bs (.operation i rest)
  | illegalOperand {i : Instr} {rest : List Byte} (request : i.isRequest = true) (illegal : i.WellFormed = false)
      (bytes : bs = encode i ++ rest) : Decodes bs (.illegalOperand i rest)
  | illegalOperation {op : Byte} {rest : List Byte} (reserved : op.toNat = 0 ∨ 10 ≤ op.toNat)
      (bytes : bs = op :: rest) : Decodes bs (.illegalOperation op rest)
  | incomplete (short : bs.length < requestLength (bs.headD 0#8)) : Decodes bs .incomplete

/-- A request that has been taken whole is legal or has an illegal operand. -/
theorem Decodes.classify {bs : List Byte} {i : Instr} {rest : List Byte} (hi : i.isRequest = true)
    (hbs : bs = encode i ++ rest) : Decodes bs (classify i rest) := by
  rw [Sys2Proof.classify, legalOperands_eq_wellFormed]
  split
  · next hw => exact .operation hi hw hbs
  · next hw => exact .illegalOperand hi (by simpa using hw) hbs

theorem decodeOpen_decodes : ∀ args, Decodes (1#8 :: args) (decodeOpen args)
  | _ :: _ :: _ :: _ :: _ :: _ :: _ :: _ :: _ :: _ =>
    .classify rfl (by simp [encode, bytes16_be16, bytes32_be32])
  | [] | [_] | [_, _] | [_, _, _] | [_, _, _, _] | [_, _, _, _, _] | [_, _, _, _, _, _] | [_, _, _, _, _, _, _]
  | [_, _, _, _, _, _, _, _] => .incomplete (by simp [requestLength])

theorem decodeWrb_decodes : ∀ args, Decodes (3#8 :: args) (decodeWrb args)
  | _ :: _ :: _ => .classify rfl rfl
  | [] | [_] => .incomplete (by simp [requestLength])

theorem decodeRdb_decodes : ∀ args, Decodes (4#8 :: args) (decodeRdb args)
  | _ :: _ :: _ => .classify rfl rfl
  | [] | [_] => .incomplete (by simp [requestLength])

theorem decodeCompt_decodes : ∀ args, Decodes (8#8 :: args) (decodeCompt args)
  | _ :: _ :: _ => .classify rfl (by simp [encode, bytes16_be16])
  | [] | [_] => .incomplete (by simp [requestLength])

theorem decodeCompp_decodes : ∀ args, Decodes (9#8 :: args) (decodeCompp args)
  | _ :: _ :: _ :: _ :: _ :: _ :: _ :: _ :: _ :: _ => .classify rfl (by simp [encode, bytes32_be32])
  | [] | [_] | [_, _] | [_, _, _] | [_, _, _, _] | [_, _, _, _, _] | [_, _, _, _, _, _] | [_, _, _, _, _, _, _]
  | [_, _, _, _, _, _, _, _] => .incomplete (by simp [requestLength])

/-- The decoder's answer on any bytes says what it should: one case for each opcode. -/
theorem decode_decodes : ∀ bs, Decodes bs (decode bs)
  | [] => .incomplete (by simp [requestLength])
  | op :: args => by
    by_cases hop : op.toNat = 0 ∨ 10 ≤ op.toNat
    · rw [decode_reserved hop]
      exact .illegalOperation hop rfl
    have hop : op = 1#8 ∨ op = 2#8 ∨ op = 3#8 ∨ op = 4#8 ∨ op = 5#8 ∨ op = 6#8 ∨ op = 7#8 ∨ op = 8#8 ∨ op = 9#8 := by
      rw [reserved_iff] at hop
      tauto
    rcases hop with rfl | rfl | rfl | rfl | rfl | rfl | rfl | rfl | rfl
    · exact decodeOpen_decodes args
    · exact .classify (i := .closeSensor) rfl rfl
    · exact decodeWrb_decodes args
    · exact decodeRdb_decodes args
    · exact .classify (i := .ldcal) rfl rfl
    · exact .classify (i := .meast) rfl rfl
    · exact .classify (i := .measp) rfl rfl
    · exact decodeCompt_decodes args
    · exact decodeCompp_decodes args

section
variable {bs : List Byte} {i : Instr} {rest : List Byte}

theorem decode_operation (h : decode bs = .operation i rest) :
    i.isRequest = true ∧ i.WellFormed = true ∧ bs = encode i ++ rest := by
  have hd := decode_decodes bs
  rw [h] at hd
  cases hd with | operation request legal bytes => exact ⟨request, legal, bytes⟩

theorem decode_illegalOperand (h : decode bs = .illegalOperand i rest) :
    i.isRequest = true ∧ i.WellFormed = false ∧ bs = encode i ++ rest := by
  have hd := decode_decodes bs
  rw [h] at hd
  cases hd with | illegalOperand request illegal bytes => exact ⟨request, illegal, bytes⟩

theorem decode_illegalOperation {op : Byte} (h : decode bs = .illegalOperation op rest) :
    bs = op :: rest ∧ (op.toNat = 0 ∨ 10 ≤ op.toNat) := by
  have hd := decode_decodes bs
  rw [h] at hd
  cases hd with | illegalOperation reserved bytes => exact ⟨bytes, reserved⟩

/-- The decoder waits for more bytes exactly while the request is not there whole (R82). -/
theorem decode_incomplete_iff : decode bs = .incomplete ↔ bs.length < requestLength (bs.headD 0#8) := by
  refine ⟨fun h => ?_, fun hshort => ?_⟩
  · have hd := decode_decodes bs
    rw [h] at hd
    cases hd with | incomplete short => exact short
  · have hwhole : ∀ i rest, bs ≠ encode i ++ rest := by
      rintro i rest rfl
      rw [requestLength_headD_encode_append, List.length_append] at hshort
      omega
    cases hd : decode bs with
    | operation i rest => exact absurd (decode_operation hd).2.2 (hwhole i rest)
    | illegalOperand i rest => exact absurd (decode_illegalOperand hd).2.2 (hwhole i rest)
    | illegalOperation op rest =>
      obtain ⟨rfl, hop⟩ := decode_illegalOperation hd
      simp [requestLength_reserved hop] at hshort
    | incomplete => rfl

end

theorem encode_injective_on_legal {i j : Instr} (hi : i.isRequest = true) (hwi : i.WellFormed = true)
    (hj : j.isRequest = true) (hwj : j.WellFormed = true) (h : encode i = encode j) : i = j := by
  have hdi := decode_encode_legal hi hwi []
  rw [h, decode_encode_legal hj hwj] at hdi
  injection hdi with hji
  exact hji.symm

/-- Settles O1: the encoder's bytes decode to the request, and the decoder's answer on any bytes says what they are. -/
theorem requestCodecExact : Obligations.RequestCodecExact :=
  ⟨fun _ rest hi hw => decode_encode_legal hi hw rest, fun _ _ _ => decode_operation,
    fun _ _ _ => decode_illegalOperand, fun _ _ _ => decode_illegalOperation,
    fun _ rest hop => decode_reserved hop rest, fun _ => decode_incomplete_iff,
    fun _ _ hi hwi hj hwj => encode_injective_on_legal hi hwi hj hwj⟩

/-- Settles O2: a decoded request's bytes are its encoding, whose length the opcode byte announces. -/
theorem requestTakenWhole : Obligations.RequestTakenWhole := by
  refine ⟨rfl, fun op args i rest => ⟨fun hdec => ?_, fun hdec => ?_⟩⟩
  · have hbytes : op :: args = encode i ++ rest :=
      hdec.elim (fun h => (decode_operation h).2.2) fun h => (decode_illegalOperand h).2.2
    have hlen : requestLength op = (encode i).length := by
      rw [← requestLength_headD_encode_append i rest, ← hbytes]
      rfl
    rw [hbytes, hlen]
    simp
  · obtain ⟨hbytes, hop⟩ := decode_illegalOperation hdec
    exact ⟨requestLength_reserved hop, (List.cons.inj hbytes).2.symm⟩

/-! ### The command byte (R78, R79, R121) -/

theorem pressureCommandByte_eq (oss : Oss) : pressureCommandByte oss = BitVec.ofNat 8 (0x34 + 64 * oss.toNat) := by
  revert oss
  decide

theorem decodeCommand_commandByte (c : Command) : decodeCommand (commandByte c) = some c := by
  cases c with
  | temperature => rfl
  | pressure oss =>
    revert oss
    decide

/-- A byte with the pressure command's function field is the command byte of its two high bits. -/
theorem pressureCommandByte_of_functionField {b : Byte} (h : functionField b = 0b110100#6) :
    pressureCommandByte (b.extractLsb' 6 2) = b := by
  have hlow : b.toNat % 64 = 52 := by simpa [functionField] using congrArg BitVec.toNat h
  have hb := b.isLt
  apply BitVec.eq_of_toNat_eq
  simp only [pressureCommandByte_eq, BitVec.toNat_ofNat, BitVec.extractLsb'_toNat, Nat.shiftRight_eq_div_pow]
  omega

/-- Settles O3: reading back is by the function field, which with the two bits above it makes up the byte. -/
theorem commandByteCodec : Obligations.CommandByteCodec := by
  refine ⟨decodeCommand_commandByte, fun b c h => ?_⟩
  unfold decodeCommand at h
  split at h
  · next hb =>
    obtain rfl := Option.some.inj h
    exact (eq_of_beq hb).symm
  split at h
  · next hb =>
    obtain rfl := Option.some.inj h
    exact pressureCommandByte_of_functionField (eq_of_beq hb)
  · cases h

/-- Settles O4: the decoders compute on the bytes of the vectors. -/
theorem wordsDecodeAsTheLayoutsSay : Obligations.WordsDecodeAsTheLayoutsSay := by
  unfold Obligations.WordsDecodeAsTheLayoutsSay
  decide

end Sys2Proof.Machine
end

/-! ## What an instruction adds to the record (spec/30_encoding.md R74, R75, R77, spec/20_memory.md R53) -/

section
namespace Sys2Proof.Machine

/-! ### The events an instruction may record -/

/-- An event that instruction `i`, begun in `s`, may add to the record: a lawful bus event, whose write is one the
instruction names; or its response, by R75 if OK, else with a cause of R181 and no payload, and ILLEGAL_OPERAND for an
illegal operand only (R77). -/
inductive MayRecord (i : Instr) (s : State) : Event → Prop where
  | busOpen {b : Byte} {a : Half} {w : Byte} {c : BitVec 32} {o : TxOutcome}
      (lawful : (Event.busOpen b a w c o).Lawful) : MayRecord i s (.busOpen b a w c o)
  | busClose : MayRecord i s .busClose
  | write {addr v : Byte} {o : TxOutcome} (named : mayWrite i s addr v) (lawful : (Event.write addr v o).Lawful) :
      MayRecord i s (.write addr v o)
  | read {addr : Byte} {n : Nat} {o : TxOutcome} (lawful : (Event.read addr n o).Lawful) :
      MayRecord i s (.read addr n o)
  | wait (w : Wait) : MayRecord i s (.wait w)
  | ok {p : List Byte} (length : p.length = payloadLength i) : MayRecord i s (.response ⟨.ok, p⟩)
  | error {st : Status} (cause : st ∈ causes i) (operands : st = .illegalOperand → i.WellFormed = false) :
      MayRecord i s (.response ⟨st, []⟩)

theorem MayRecord.lawful {i : Instr} {s : State} {e : Event} (h : MayRecord i s e) : e.Lawful := by
  cases h with
  | busOpen lawful | write _ lawful | read lawful => exact lawful
  | busClose | wait => trivial
  | ok => exact fun hne => absurd rfl hne
  | error => exact fun _ => rfl

theorem ok_not_mem_causes (i : Instr) : Status.ok ∉ causes i := by
  cases i <;> simp [causes]

/-! ### An operation under way, by what it has recorded -/

/-- The operation `i` begun in `s` has come to `u`, and has recorded only what it may. -/
def Traced (i : Instr) (s u : State) : Prop := ∃ es, u.record = s.record ++ es ∧ ∀ e ∈ es, MayRecord i s e

namespace Traced

theorem refl (i : Instr) (s : State) : Traced i s s := ⟨[], (List.append_nil _).symm, nofun⟩

variable {i : Instr} {s u : State} (h : Traced i s u)
include h

/-- A register update records nothing. -/
theorem update {v : State} (hv : v.record = u.record) : Traced i s v := by
  obtain ⟨es, hrec, hes⟩ := h
  exact ⟨es, hv.trans hrec, hes⟩

theorem record {v : State} {e : Event} (he : MayRecord i s e) (hv : v.record = u.record ++ [e]) : Traced i s v := by
  obtain ⟨es, hrec, hes⟩ := h
  refine ⟨es ++ [e], by rw [hv, hrec, List.append_assoc], fun e' he' => ?_⟩
  rcases List.mem_append.mp he' with he' | he'
  · exact hes e' he'
  · rwa [List.mem_singleton.mp he']

theorem succeed {p : List Byte} (hp : p.length = payloadLength i) : Traced i s (u.succeed p) :=
  h.record (.ok hp) rfl

theorem fail {st : Status} (operands : st = .illegalOperand → i.WellFormed = false := by nofun)
    (cause : st ∈ causes i := by simp [causes]) : Traced i s (u.fail st) :=
  h.record (.error cause operands) rfl

/-! #### A transaction records itself, and stops or goes on -/

theorem writeByte {addr v : Byte} {k : State → State} (named : mayWrite i s addr v)
    (go : ∀ u', Traced i s u' → Traced i s (k u')) (cause : .ioError ∈ causes i := by simp [causes]) :
    Traced i s (writeByte addr v u k) :=
  writeByte_cases (fun _ => (h.record (.write named (.inr (.inl rfl))) rfl).fail nofun cause)
    (fun _ => go _ (h.record (.write named (.inr (.inr rfl))) rfl))
    fun _ _ => h.record (.write named (.inl rfl)) rfl

theorem busOpen {b : Byte} {a : Half} {w : Byte} {c : BitVec 32} {k : State → State}
    (go : ∀ u', Traced i s u' → Traced i s (k u')) (cause : .ioError ∈ causes i := by simp [causes]) :
    Traced i s (busOpen b a w c u k) :=
  busOpen_cases (fun _ => (h.record (.busOpen (.inr (.inl rfl))) rfl).fail nofun cause)
    (fun _ => go _ (h.record (.busOpen (.inr (.inr rfl))) rfl))
    fun _ _ => h.record (.busOpen (.inl rfl)) rfl

theorem readExact {addr : Byte} {n : Nat} {k : List Byte → State → State} (hn : 1 ≤ n ∧ n ≤ 255)
    (go : ∀ bs u', bs.length = n → Traced i s u' → Traced i s (k bs u'))
    (failed : .ioError ∈ causes i := by simp [causes]) (short : .insufficientData ∈ causes i := by simp [causes]) :
    Traced i s (readExact addr n u k) := by
  have recorded : ∀ {v o}, (o = .unanswered ∨ o = .ioError ∨ ∃ bs, o = .ok bs ∧ bs.length ≤ n) →
      v.record = u.record ++ [.read addr n o] → Traced i s v :=
    fun ho => h.record (.read ⟨hn.1, hn.2, ho⟩)
  refine readExact_cases (fun _ => ?_) (fun _ bs hlt => ?_) (fun _ bs heq => ?_) fun _ _ => ?_
  · exact (recorded (.inr (.inl rfl)) rfl).fail nofun failed
  · exact (recorded (.inr (.inr ⟨bs, rfl, hlt.le⟩)) rfl).fail nofun short
  · exact go bs _ heq (recorded (.inr (.inr ⟨bs, rfl, heq.le⟩)) rfl)
  · exact recorded (.inl rfl) rfl

theorem waitFor {w : Wait} {k : State → State} (go : ∀ u', Traced i s u' → Traced i s (k u')) :
    Traced i s (waitFor w u k) :=
  go _ (h.record (.wait w) rfl)

end Traced

/-! ### What each instruction records -/

/-- A mode byte whose reserved bits an operation refuses is an illegal operand (R77). -/
theorem mode_illegal {m : Byte} (h : (modeReserved m != 0#6) = true) : decide (m.toNat ≤ 3) = false := by
  simpa [modeReserved_eq_zero_iff] using h

theorem execOpen_traced {b : Byte} {a : Half} {w : Byte} {c : BitVec 32} {m : Byte} {s t : State}
    (h : execOpen b a w c m s = .next t) : Traced (.openSensor b a w c m) s t := by
  obtain rfl := Host.Outcome.next.inj h
  have hs := Traced.refl (.openSensor b a w c m) s
  split
  · next hm => exact hs.fail fun _ => mode_illegal hm
  split
  · exact hs.fail
  · exact hs.busOpen fun _ h => (h.update rfl).waitFor fun _ h => h.succeed rfl

theorem execClose_traced {s t : State} (h : execClose s = .next t) : Traced .closeSensor s t := by
  obtain rfl := Host.Outcome.next.inj h
  have hs := Traced.refl .closeSensor s
  split
  · exact ((hs.record .busClose rfl).update rfl).succeed rfl
  · exact (hs.update rfl).succeed rfl

theorem execWrb_traced {reg val : Byte} {s t : State} (h : execWrb reg val s = .next t) :
    Traced (.wrb reg val) s t := by
  obtain rfl := Host.Outcome.next.inj h
  have hs := Traced.refl (.wrb reg val) s
  split
  · exact hs.fail
  · exact hs.writeByte ⟨rfl, rfl⟩ fun _ h => h.succeed rfl

theorem execRdb_traced {reg len : Byte} {s t : State} (h : execRdb reg len s = .next t) :
    Traced (.rdb reg len) s t := by
  obtain rfl := Host.Outcome.next.inj h
  have hs := Traced.refl (.rdb reg len) s
  split
  · next hlen =>
    obtain rfl : len = 0#8 := eq_of_beq hlen
    exact hs.fail fun _ => rfl
  next hlen =>
  have hlen : 1 ≤ len.toNat := (len_ne_zero_iff len).mp (by simpa using hlen)
  split
  · exact hs.fail
  · exact hs.readExact ⟨hlen, Nat.le_of_lt_succ len.isLt⟩ fun _ _ hbs h => h.succeed hbs

theorem execLdcal_traced {s t : State} (h : execLdcal s = .next t) : Traced .ldcal s t := by
  obtain rfl := Host.Outcome.next.inj h
  have hs := Traced.refl .ldcal s
  split
  · exact hs.fail
  split
  · exact hs.fail
  · exact hs.readExact (by decide) fun _ _ _ h => (h.update rfl).succeed rfl

theorem execMeast_traced {s t : State} (h : execMeast s = .next t) : Traced .meast s t := by
  obtain rfl := Host.Outcome.next.inj h
  have hs := Traced.refl .meast s
  split
  · exact hs.fail
  split
  · exact hs.fail
  · have hs : Traced .meast s s.clearLatch := hs.update rfl
    refine hs.writeByte ⟨rfl, rfl⟩ fun _ h => h.waitFor fun _ h => ?_
    refine h.readExact (by decide) fun _ _ _ h => ?_
    split
    · exact h.fail
    · exact (h.update rfl).succeed rfl

theorem execMeasp_traced {s t : State} (h : execMeasp s = .next t) : Traced .measp s t := by
  obtain rfl := Host.Outcome.next.inj h
  have hs := Traced.refl .measp s
  split
  · exact hs.fail
  split
  · exact hs.fail
  split
  · exact hs.fail
  · have hs : Traced .measp s s.clearLatch := hs.update rfl
    refine hs.writeByte ⟨rfl, pressureCommandByte_eq s.oss⟩ fun _ h => h.waitFor fun _ h => ?_
    refine h.readExact (by decide) fun _ _ _ h => ?_
    split
    · exact h.fail
    · exact h.succeed rfl

theorem execCompt_traced {ut : Half} {s t : State} (h : execCompt ut s = .next t) : Traced (.compt ut) s t := by
  obtain rfl := Host.Outcome.next.inj h
  have hs := Traced.refl (.compt ut) s
  split
  · exact hs.fail
  split
  · exact hs.fail
  · exact hs.succeed rfl

theorem execCompp_traced {up b5 : I32} {m : Byte} {s t : State} (h : execCompp up b5 m s = .next t) :
    Traced (.compp up b5 m) s t := by
  obtain rfl := Host.Outcome.next.inj h
  have hs := Traced.refl (.compp up b5 m) s
  split
  · next hm => exact hs.fail fun _ => mode_illegal hm
  split
  · exact hs.fail
  split
  · exact hs.fail
  · exact hs.succeed rfl

/-- The outcome of a write or an open carries no bytes (R52, R66). -/
theorem ofReply_clipReply_zero (r : Reply) :
    TxOutcome.ofReply (clipReply 0 r) = if r = .ioError then .ioError else .ok [] := by
  cases r <;> rfl

theorem emitCommand_traced {i : Instr} {c : Command} {s : State} (named : mayWrite i s ctrlReg (commandByte c)) :
    Traced i s (emitCommand c s) := by
  have hs := Traced.refl i s
  unfold emitCommand
  split
  · refine transact_cases (P := Traced i s) (fun r _ => hs.record (.write named (.inr ?_)) rfl)
      fun _ _ => hs.record (.write named (.inl rfl)) rfl
    rw [ofReply_clipReply_zero]
    exact ite_eq_or_eq _ _ _
  · exact hs

/-- The record of every instruction. -/
theorem exec_traced {i : Instr} {s t : State} (h : exec i s = .next t) : Traced i s t := by
  cases i with
  | openSensor => exact execOpen_traced h
  | closeSensor => exact execClose_traced h
  | wrb => exact execWrb_traced h
  | rdb => exact execRdb_traced h
  | ldcal => exact execLdcal_traced h
  | meast => exact execMeast_traced h
  | measp => exact execMeasp_traced h
  | compt => exact execCompt_traced h
  | compp => exact execCompp_traced h
  | cmdTemp =>
    obtain rfl := Host.Outcome.next.inj h
    exact emitCommand_traced ⟨rfl, rfl⟩
  | cmdPres oss =>
    obtain rfl := Host.Outcome.next.inj h
    exact emitCommand_traced ⟨rfl, pressureCommandByte_eq oss⟩

section
variable {i : Instr} {s t : State} {es : List Event}

/-- Whatever an instruction added to the record, it may add. -/
theorem exec_mayRecord (hexec : exec i s = .next t) (hrec : t.record = s.record ++ es) : ∀ e ∈ es, MayRecord i s e := by
  obtain ⟨es', hrec', hes⟩ := exec_traced hexec
  obtain rfl : es = es' := List.append_cancel_left (hrec.symm.trans hrec')
  exact hes

theorem mem_responsesOf {r : Response} (h : r ∈ responsesOf es) : .response r ∈ es := by
  induction es with
  | nil => cases h
  | cons e es ih =>
    cases e with
    | response r' => exact (List.mem_cons.mp h).elim (fun he => by simp [he]) fun he => .tail _ (ih he)
    | _ => exact .tail _ (ih h)

end

/-! ### Every step keeps the record lawful -/

/-- A transaction still unanswered is as lawful as the answered one. -/
theorem Event.Lawful.outstanding {e e' : Event} (h : e.Lawful) (he' : e' ∈ e.outstanding) : e'.Lawful := by
  cases e with
  | busOpen | write =>
    obtain rfl := List.mem_singleton.mp he'
    exact .inl rfl
  | read =>
    obtain rfl := List.mem_singleton.mp he'
    obtain ⟨hlo, hhi, -⟩ := h
    exact ⟨hlo, hhi, .inl rfl⟩
  | busClose | wait | response => cases he'

theorem busOf_subset (es : List Event) : busOf es ⊆ es := by
  induction es with
  | nil => exact List.Subset.refl _
  | cons e es ih =>
    cases e with
    | response => exact List.subset_cons_of_subset _ ih
    | _ => exact List.cons_subset_cons _ ih

/-- What has happened of lawful bus events, when the reset comes, is lawful. -/
theorem happened_lawful {bus : List Event} (h : ∀ e ∈ bus, e.Lawful) (n : Nat) (o : Bool) :
    ∀ e ∈ happened n o bus, e.Lawful := by
  intro e he
  rcases List.mem_append.mp he with he | he
  · exact h e (List.mem_of_mem_take he)
  · cases o with
    | false => cases he
    | true =>
      obtain ⟨e', he', hout⟩ := List.mem_flatMap.mp he
      have hmem : e' ∈ bus.drop n := List.mem_of_head? (by simpa using he')
      exact (h e' (List.mem_of_mem_drop hmem)).outstanding hout

theorem State.RecordLawful.append {s t : State} {es : List Event} (h : s.RecordLawful)
    (hrec : t.record = s.record ++ es) (hes : ∀ e ∈ es, e.Lawful) : t.RecordLawful := by
  intro e he
  rw [hrec] at he
  exact (List.mem_append.mp he).elim (h e) (hes e)

/-- Settles O37: a step adds what its instruction may record, or what of it had happened when the reset came, or a refusal. -/
theorem stepKeepsRecordLawful : Obligations.StepKeepsRecordLawful := by
  intro s t hs hstep
  rcases step_cases hstep with ⟨-, rfl⟩ | ⟨i, p, c, u, -, hexec, ht⟩ | ⟨p, -, ht⟩ | rfl
  · exact hs
  · obtain ⟨es, hrec, hes⟩ := exec_traced hexec
    have hlawful : ∀ e ∈ es, e.Lawful := fun e he => (hes e he).lawful
    rcases ht with rfl | ⟨-, n, o, rfl⟩
    · exact hs.append hrec hlawful
    · have hadded : u.record.drop s.record.length = es := by rw [hrec, List.drop_left]
      rw [hadded]
      exact hs.append rfl (happened_lawful (fun e he => hlawful e (busOf_subset es he)) n o)
  · rcases ht with rfl | ⟨-, n, o, rfl⟩
    · refine hs.append rfl fun e he => ?_
      obtain rfl := List.mem_singleton.mp he
      exact fun _ => rfl
    · exact hs.append rfl (happened_lawful (bus := []) (by simp) n o)
  · exact hs

/-! ### The responses -/

/-- Settles O32: an OK response is recorded with the operation's payload length. -/
theorem payloadLengthOnOk : Obligations.PayloadLengthOnOk := by
  intro i s t es hexec hrec r hr hok
  cases exec_mayRecord hexec hrec _ (mem_responsesOf hr) with
  | ok length => exact length
  | error cause =>
    obtain rfl := hok
    exact absurd cause (ok_not_mem_causes i)

theorem modeReserved_ne_zero_of_shift {m : Byte} (h : m >>> 2 ≠ 0#8) : modeReserved m ≠ 0#6 := by
  rw [ne_eq, modeReserved_eq_zero_iff]
  rw [ne_eq, ← BitVec.toNat_inj, BitVec.toNat_ushiftRight, Nat.shiftRight_eq_div_pow, BitVec.toNat_ofNat] at h
  omega

/-- Settles O8: the operand check is the first line of OPEN, COMPP and RDB; the record of an instruction with legal
operands holds no ILLEGAL_OPERAND. -/
theorem reservedOperandRefused : Obligations.ReservedOperandRefused := by
  refine ⟨fun b a w c m s hm => ?_, fun up b5 m s hm => ?_, fun reg s => rfl,
    fun i s t es hw hexec hrec r hr hill => ?_⟩
  · simp [exec, execOpen, modeReserved_ne_zero_of_shift hm, State.fail, State.log]
  · simp [exec, execCompp, modeReserved_ne_zero_of_shift hm, State.fail, State.log]
  · cases exec_mayRecord hexec hrec _ (mem_responsesOf hr) with
    | ok => cases hill
    | error _ operands => simp [operands hill] at hw

end Sys2Proof.Machine
end

/-! ## The request at the port and the emitted commands (spec/30_encoding.md R76, R79, R82) -/

section
namespace Sys2Proof.Machine

/-! ### A step that no reset disturbs -/

section
variable {s : State} (hr : s.resets.headD .no = .no) (hh : s.hung = false) (hc : s.ctrl = none)
include hr

theorem resetNow_eq_false : s.resetNow = false := by
  cases h : s.resets with
  | nil => simp [State.resetNow, h]
  | cons r rs =>
    obtain rfl : r = .no := by simpa [h] using hr
    simp [State.resetNow, h]

include hh hc

theorem step_request {i : Instr} {rest : List Byte}
    (hdec : decode s.port = .operation i rest ∨ decode s.port = .illegalOperand i rest) :
    step s = exec i { s with port := rest, resets := s.resets.tail } := by
  have hrun : step s = (s.take rest).runUnderReset (exec i) := by
    rcases hdec with hdec | hdec <;> simp [step, resetNow_eq_false hr, hh, hc, fetch, hdec]
  exact hrun.trans (runUnderReset_undisturbed hr)

theorem step_illegalOperation {op : Byte} {rest : List Byte} (hdec : decode s.port = .illegalOperation op rest) :
    step s = .next (illegalOperation { s with port := rest, resets := s.resets.tail }) := by
  have hrun : step s = (s.take rest).runUnderReset fun u => .next (illegalOperation u) := by
    simp [step, resetNow_eq_false hr, hh, hc, fetch, hdec]
  exact hrun.trans (runUnderReset_undisturbed hr)

end

/-- Settles O5: the decoder's answer selects the step, and a legal request's bytes decode to it. -/
theorem stepRunsDecodedRequest : Obligations.StepRunsDecodedRequest := by
  intro s i rest hr hh hc
  refine ⟨fun hi hw hport => ?_, fun hdec => step_request hr hh hc (.inl hdec),
    fun hdec => step_request hr hh hc (.inr hdec)⟩
  exact step_request hr hh hc (.inl (by rw [hport, decode_encode_legal hi hw]))

/-- Settles O7: a reserved opcode decodes to the refusal, which adds its response. -/
theorem reservedOpcodeRefused : Obligations.ReservedOpcodeRefused := by
  intro s op rest hr hh hc hport hop
  exact step_illegalOperation hr hh hc (by rw [hport, decode_reserved hop])

/-! ### The emitted commands -/

theorem emitCommand_closed {s : State} (h : s.opened = false) (c : Command) : emitCommand c s = s := by
  simp [emitCommand, h]

theorem emitCommand_open {s : State} (h : s.opened = true) {r : Reply} {rest : List Answer}
    (hr : s.answers = .reply r :: rest) (c : Command) :
    emitCommand c s =
      { s with
        answers := rest
        record := s.record ++ [.write ctrlReg (commandByte c) (if r = .ioError then .ioError else .ok [])] } := by
  simp [emitCommand, h, transact_reply hr, ofReply_clipReply_zero, State.log]

/-- Settles O18: emission is the one write of the command's byte while open, and nothing while closed. -/
theorem commandsWriteTheControlRegister : Obligations.CommandsWriteTheControlRegister := by
  refine fun s => ⟨fun oss hclosed => ⟨?_, ?_⟩, fun hopen r rest hr => ?_, fun hopen oss r rest hr => ?_⟩
  · exact congrArg _ (emitCommand_closed hclosed _)
  · exact congrArg _ (emitCommand_closed hclosed _)
  · exact congrArg _ (emitCommand_open hopen hr .temperature)
  · rw [← pressureCommandByte_eq]
    exact congrArg _ (emitCommand_open hopen hr (.pressure oss))

end Sys2Proof.Machine
end

/-! ## The bus operations (spec/40_bus_ops.md R100 to R103, spec/44_acquisition.md R168) -/

section
namespace Sys2Proof.Machine

/-! ### Two events in a row -/

theorem State.log_log (s : State) (e f : Event) : (s.log e).log f = { s with record := s.record ++ [e, f] } := by
  simp [State.log]

/-! ### A transaction the transport answers -/

section
variable {s : State} {rest : List Answer}

section
variable (h : s.answers = .reply .ioError :: rest)
include h

theorem writeByte_ioError (addr v : Byte) (k : State → State) :
    writeByte addr v s k =
      { s with
        answers := rest
        record := s.record ++ [.write addr v .ioError, .response ⟨.ioError, []⟩] } :=
  (transact_reply h).trans (State.log_log _ _ _)

theorem busOpen_ioError (b : Byte) (a : Half) (w : Byte) (c : BitVec 32) (k : State → State) :
    busOpen b a w c s k =
      { s with
        answers := rest
        record := s.record ++ [.busOpen b a w c .ioError, .response ⟨.ioError, []⟩] } :=
  (transact_reply h).trans (State.log_log _ _ _)

theorem readExact_ioError (addr : Byte) (n : Nat) (k : List Byte → State → State) :
    readExact addr n s k =
      { s with
        answers := rest
        record := s.record ++ [.read addr n .ioError, .response ⟨.ioError, []⟩] } :=
  (transact_reply h).trans (State.log_log _ _ _)

end

section
variable {bs : List Byte} (h : s.answers = .reply (.ok bs) :: rest)
include h

theorem writeByte_ok (addr v : Byte) (k : State → State) :
    writeByte addr v s k = k ({ s with answers := rest }.log (.write addr v (.ok []))) :=
  transact_reply h

theorem busOpen_ok (b : Byte) (a : Half) (w : Byte) (c : BitVec 32) (k : State → State) :
    busOpen b a w c s k = k ({ s with answers := rest }.log (.busOpen b a w c (.ok []))) :=
  transact_reply h

/-- A read answered with no more than it asked for keeps every byte, and goes on if none is missing (R53, R54). -/
theorem readExact_ok {n : Nat} (hn : bs.length ≤ n) (addr : Byte) (k : List Byte → State → State) :
    readExact addr n s k =
      if bs.length < n then ({ s with answers := rest }.log (.read addr n (.ok bs))).fail .insufficientData
      else k bs ({ s with answers := rest }.log (.read addr n (.ok bs))) := by
  simp [readExact, transact_reply h, clipReply, TxOutcome.ofReply, List.take_of_length_le hn]

end
end

/-! ### The operations whose entry checks pass -/

section
variable {s : State}

theorem execOpen_entered (hs : s.opened = false) {mode : Byte} (hm : mode.toNat ≤ 3)
    (b : Byte) (a : Half) (w : Byte) (c : BitVec 32) :
    execOpen b a w c mode s =
      .next (busOpen b a w c s fun s1 =>
        waitFor .settle (s1.construct b a w c (BitVec.ofNat 2 mode.toNat)) fun s2 => s2.succeed []) := by
  simp [execOpen, (modeReserved_eq_zero_iff mode).mpr hm, hs, modeOss_eq_ofNat]

theorem execWrb_entered (hs : s.opened = true) (reg val : Byte) :
    execWrb reg val s = .next (writeByte reg val s fun s1 => s1.succeed []) := by
  simp [execWrb, hs]

theorem execRdb_entered (hs : s.opened = true) {len : Byte} (hl : len.toNat ≠ 0) (reg : Byte) :
    execRdb reg len s = .next (readExact reg len.toNat s fun bs s1 => s1.succeed bs) := by
  have hne : len ≠ 0#8 := mt (congrArg BitVec.toNat) hl
  simp [execRdb, hne, hs]

end

/-! ### Only what an instruction names is written (R102, R168, R79) -/

/-- Settles O38: whatever an instruction adds to the record it may record, and a write only if it is one it names. -/
theorem onlyNamedSubRegistersWritten : Obligations.OnlyNamedSubRegistersWritten := by
  intro i s t es hexec hrec addr val r hwrite
  cases exec_mayRecord hexec hrec _ hwrite with
  | write named => exact named

/-! ### OPEN, CLOSE, WRB and RDB, in each way they can end -/

/-- Settles O9: two entry checks refuse; BusOpen fails, or the sensor is constructed before the settling wait. -/
theorem openConstructsSensor : Obligations.OpenConstructsSensor := by
  refine fun b a w c mode s => ⟨fun hm => ?_, fun hm hs => ?_, fun hm hs rest h => ?_, fun hm hs bs rest h => ?_⟩
  · have hreserved : modeReserved mode ≠ 0#6 := by
      rw [ne_eq, modeReserved_eq_zero_iff]
      omega
    simp [exec, execOpen, hreserved, State.fail, State.log]
  · simp [exec, execOpen, (modeReserved_eq_zero_iff mode).mpr hm, hs, State.fail, State.log]
  · rw [exec, execOpen_entered hs hm, busOpen_ioError h]
  · rw [exec, execOpen_entered hs hm, busOpen_ok h]
    simp [waitFor, State.construct, State.succeed, State.log]

/-- Settles O10: whether BusClose is recorded is CLOSE's only case split. -/
theorem closeReleasesTransport : Obligations.CloseReleasesTransport := by
  intro s
  cases hs : s.opened with
  | false => simp [exec, execClose, hs, State.release, State.succeed, State.log]
  | true => simp [exec, execClose, hs, State.release, State.succeed, State.log]

/-- Settles O11: closed, no transaction; open, the one write and then the response its answer gives. -/
theorem writeByteOperation : Obligations.WriteByteOperation := by
  refine fun reg val s => ⟨fun hs => ?_, fun hs rest h => ?_, fun hs bs rest h => ?_⟩
  · simp [exec, execWrb, hs, State.fail, State.log]
  · rw [exec, execWrb_entered hs, writeByte_ioError h]
  · rw [exec, execWrb_entered hs, writeByte_ok h]
    exact congrArg _ (State.log_log _ _ _)

/-- Settles O12: two entry checks refuse; then the one read fails, is short, or gives exactly the bytes returned. -/
theorem readBytesOperation : Obligations.ReadBytesOperation := by
  refine fun reg len s => ⟨fun hl => ?_, fun hl hs => ?_, fun hl hs rest h => ?_, fun hs bs rest h hshort => ?_,
    fun hl hs bs rest h hexact => ?_⟩
  · obtain rfl : len = 0#8 := BitVec.eq_of_toNat_eq hl
    rfl
  · have hne : len ≠ 0#8 := mt (congrArg BitVec.toNat) hl
    simp [exec, execRdb, hne, hs, State.fail, State.log]
  · rw [exec, execRdb_entered hs hl, readExact_ioError h]
  · rw [exec, execRdb_entered hs (Nat.ne_zero_of_lt hshort), readExact_ok h hshort.le, if_pos hshort]
    exact congrArg _ (State.log_log _ _ _)
  · rw [exec, execRdb_entered hs hl, readExact_ok h hexact.le, if_neg hexact.not_lt]
    exact congrArg _ (State.log_log _ _ _)

end Sys2Proof.Machine
end

/-! ## The calibration block and LDCAL (spec/41_calibration.md R111 to R115) -/

section
namespace Sys2Proof.Machine

/-! ### The two decoders of a byte pair (R111, R112) -/

/-- DecS16 (R111): bit 7 of the first byte is the sign. -/
theorem toInt_decS16 (hi lo : Byte) :
    (decS16 hi lo).toInt =
      if hi.toNat < 0x80 then (hi.toNat * 256 + lo.toNat : Int) else (hi.toNat * 256 + lo.toNat : Int) - 65536 := by
  have hlo := lo.isLt
  rw [decS16, BitVec.toInt_signExtend_of_le (by decide), BitVec.toInt_eq_toNat_cond, toNat_be16]
  by_cases hsign : hi.toNat < 0x80
  · rw [if_pos hsign, if_pos (by omega)]
    push_cast
    rfl
  · rw [if_neg hsign, if_neg (by omega)]
    push_cast
    rfl

/-- DecU16 (R112): the wider pattern has no sign to extend. -/
theorem toInt_decU16 (hi lo : Byte) : (decU16 hi lo).toInt = (hi.toNat * 256 + lo.toNat : Int) := by
  have hhi := hi.isLt
  have hlo := lo.isLt
  have hwide : (decU16 hi lo).toNat = hi.toNat * 256 + lo.toNat := by
    rw [decU16, BitVec.toNat_setWidth_of_le (by decide), toNat_be16]
  rw [BitVec.toInt_eq_toNat_of_lt (by omega), hwide]
  push_cast
  rfl

/-- Settles O27: each field is one byte pair through its decoder, in the order of R114. -/
theorem calibrationDecode : Obligations.CalibrationDecode := by
  intro c0 c1 c2 c3 c4 c5 c6 c7 c8 c9 c10 c11 c12 c13 c14 c15 c16 c17 c18 c19 c20 c21
  exact ⟨toInt_decS16 c0 c1, toInt_decS16 c2 c3, toInt_decS16 c4 c5,
    toInt_decU16 c6 c7, toInt_decU16 c8 c9, toInt_decU16 c10 c11,
    toInt_decS16 c12 c13, toInt_decS16 c14 c15, toInt_decS16 c16 c17,
    toInt_decS16 c18 c19, toInt_decS16 c20 c21, decodeCal_inRange _⟩

/-! ### LDCAL, in each way it can end (R115) -/

theorem execLdcal_entered {s : State} (hs : s.opened = true) (hcal : s.cal = none) :
    execLdcal s =
      .next (readExact 0xAA#8 22 s fun bs s1 => (s1.populate (decodeCal bs)).succeed (payloadCal (decodeCal bs))) := by
  simp [execLdcal, hs, hcal, calBase, calLen]

/-- Settles O13: two entry checks refuse; then the one read fails, is short, or fills the store before the response. -/
theorem loadCalibration : Obligations.LoadCalibration := by
  refine fun s => ⟨fun hs => ?_, fun hs hcal => ?_, fun hs hcal rest h => ?_, fun hs hcal bs rest h hshort => ?_,
    fun hs hcal bs rest h hexact => ?_⟩
  · simp [exec, execLdcal, hs, State.fail, State.log]
  · simp [exec, execLdcal, hs, Option.isSome_iff_ne_none.mpr hcal, State.fail, State.log]
  · rw [exec, execLdcal_entered hs hcal, readExact_ioError h]
  · rw [exec, execLdcal_entered hs hcal, readExact_ok h hshort.le, if_pos hshort]
    exact congrArg _ (State.log_log _ _ _)
  · rw [exec, execLdcal_entered hs hcal, readExact_ok h hexact.le, if_neg hexact.not_lt]
    simp [State.populate, State.succeed, State.log]

end Sys2Proof.Machine
end

/-! ## The pressure waits (spec/42_oversampling.md R122) -/

section
namespace Sys2Proof.Machine

/-- R122: the lengths added up for a smaller `oss` are among those added up for a larger one. -/
theorem delayMs_le_delayMs {a b : Oss} (hab : a.toNat ≤ b.toNat) : Config.delayMs a ≤ Config.delayMs b := by
  have hsub : (List.range (a.toNat + 1)).Sublist (List.range (b.toNat + 1)) :=
    List.range_sublist.mpr (Nat.succ_le_succ hab)
  exact (hsub.map Config.delayStepMs).sum_le_sum fun _ _ => Nat.zero_le _

/-- Settles O29: the wait after a pressure command is its mode's delay. -/
theorem delaysDoNotDecrease : Obligations.DelaysDoNotDecrease :=
  fun _ _ hab => delayMs_le_delayMs hab

end Sys2Proof.Machine
end

/-! ## The compensation engine, COMPT and COMPP (spec/43_compensation.md R135 to R143) -/

section
namespace Sys2Proof.Machine

/-! ### The temperature function (R135) -/

theorem tempX1_eq (ut : Half) (c : Coeffs) :
    tempX1 ut c = ((ut.setWidth 32 - c.ac6) * c.ac5).sshiftRight 15 := by
  rw [tempX1, asr32_eq, mul32_eq, sub32_eq]

theorem tempDivisor_eq (ut : Half) (c : Coeffs) : tempDivisor ut c = tempX1 ut c + c.md := add32_eq _ _

theorem tempB5_eq (ut : Half) (c : Coeffs) :
    tempB5 ut c =
      tempX1 ut c + BitVec.ofInt 32 (Int.fdiv (c.mc <<< 11).toInt (tempX1 ut c + c.md).toInt) := by
  rw [tempB5, add32_eq, sdiv32, s32, tempNumerator, shl32_eq, tempDivisor_eq]

theorem tempT10_eq (b5 : I32) : tempT10 b5 = (b5 + 8).sshiftRight 4 := by
  rw [tempT10, asr32_eq, add32_eq]

theorem computeTemperature_zero {ut : Half} {c : Coeffs} (hd : tempDivisor ut c = 0#32) :
    computeTemperature ut c = none :=
  if_pos (beq_iff_eq.mpr hd)

theorem computeTemperature_nonzero {ut : Half} {c : Coeffs} (hd : tempDivisor ut c ≠ 0#32) :
    computeTemperature ut c = some (tempT10 (tempB5 ut c), tempB5 ut c) :=
  if_neg (mt beq_iff_eq.mp hd)

/-- Settles O22: each line of R135 is its primitive's bit vector operation, and the divisor decides. -/
theorem temperatureFunction : Obligations.TemperatureFunction := by
  intro ut c
  simp only [← tempX1_eq, ← tempDivisor_eq]
  refine ⟨computeTemperature_zero, fun hd => ?_⟩
  rw [computeTemperature_nonzero hd, tempT10_eq, tempB5_eq, tempDivisor_eq]

/-! ### What cannot wrap in the temperature function (R135, R24) -/

/-- A narrowed value shifted right by 15 has 17 bits left. -/
theorem tempX1_mem (ut : Half) (c : Coeffs) : -65536 ≤ (tempX1 ut c).toInt ∧ (tempX1 ut c).toInt ≤ 65535 := by
  rw [tempX1_eq, BitVec.toInt_sshiftRight, Int.shiftRight_eq_div_pow]
  have hle := ((ut.setWidth 32 - c.ac6) * c.ac5).le_toInt
  have hlt := ((ut.setWidth 32 - c.ac6) * c.ac5).toInt_lt
  omega

theorem inRange_iff {lo hi : Int} {x : I32} : inRange lo hi x = true ↔ lo ≤ x.toInt ∧ x.toInt ≤ hi := by
  simp [inRange]

section
variable {c : Coeffs}

theorem toInt_tempNumerator (hmc : inRange (-32768) 32767 c.mc) : (tempNumerator c).toInt = c.mc.toInt * 2048 := by
  have hmc := inRange_iff.mp hmc
  exact toInt_s32 _ (by omega) (by omega)

theorem toInt_tempDivisor (hmd : inRange (-32768) 32767 c.md) (ut : Half) :
    (tempDivisor ut c).toInt = (tempX1 ut c).toInt + c.md.toInt := by
  have hmd := inRange_iff.mp hmd
  have hx1 := tempX1_mem ut c
  exact toInt_s32 _ (by omega) (by omega)

/-- Rounding down does not lead away from the numerator's magnitude, which is at most 2^26. -/
theorem tempQuotient_mem (hmc : inRange (-32768) 32767 c.mc) (d : Int) :
    -67108864 ≤ (c.mc.toInt * 2048).fdiv d ∧ (c.mc.toInt * 2048).fdiv d ≤ 67108864 := by
  have hmc := inRange_iff.mp hmc
  have hquot := Int.natAbs_fdiv_le_natAbs (c.mc.toInt * 2048) d
  omega

theorem toInt_tempB5 (hmc : inRange (-32768) 32767 c.mc) (hmd : inRange (-32768) 32767 c.md) (ut : Half) :
    (tempB5 ut c).toInt =
      (tempX1 ut c).toInt + (c.mc.toInt * 2048).fdiv ((tempX1 ut c).toInt + c.md.toInt) := by
  have hx := tempX1_mem ut c
  have hq := tempQuotient_mem hmc ((tempX1 ut c).toInt + c.md.toInt)
  rw [tempB5, add32, sdiv32, toInt_tempNumerator hmc, toInt_tempDivisor hmd]
  rw [toInt_s32 (Int.fdiv _ _) (by omega) (by omega)]
  exact toInt_s32 _ (by omega) (by omega)

end

theorem toInt_tempT10 {b5 : I32} (hb5 : b5.toInt ≤ 2147483639) : (tempT10 b5).toInt = (b5.toInt + 8).fdiv 16 := by
  have hle := b5.le_toInt
  have hround : (8 : I32).toInt = 8 := rfl
  have hsum : (add32 b5 8).toInt = b5.toInt + 8 := by
    rw [← hround]
    exact toInt_s32 _ (by omega) (by omega)
  have hquot := Int.natAbs_fdiv_le_natAbs (b5.toInt + 8) (2 ^ 4)
  rw [tempT10, asr32, hsum]
  exact toInt_s32 _ (by omega) (by omega)

theorem toInt_sub_ac6 {c : Coeffs} (hac6 : inRange 0 65535 c.ac6) (ut : Half) :
    (sub32 (ut.setWidth 32) c.ac6).toInt = ut.toNat - c.ac6.toInt := by
  have hut : (ut.setWidth 32).toInt = ut.toNat := by
    rw [BitVec.toInt_setWidth]
    exact Int.bmod_eq_of_le (by omega) (by omega)
  have hac6 := inRange_iff.mp hac6
  rw [← hut]
  exact toInt_s32 _ (by omega) (by omega)

/-- Settles O23: the ranges of R24 keep every sum and the numerator far inside 32 bits. -/
theorem temperatureStepsDoNotWrap : Obligations.TemperatureStepsDoNotWrap := by
  intro ut c ⟨_, _, _, _, _, hac6, _, _, _, hmc, hmd⟩ d0 x1
  have hd0 : d0.toInt = ut.toNat - c.ac6.toInt := toInt_sub_ac6 hac6 ut
  have hac6 := inRange_iff.mp hac6
  obtain ⟨hx1_lo, hx1_hi⟩ := tempX1_mem ut c
  refine ⟨hd0, by omega, by omega, hx1_lo, hx1_hi, toInt_tempNumerator hmc, toInt_tempDivisor hmd ut,
    fun t10 b5 hresult => ?_⟩
  by_cases hd : tempDivisor ut c = 0#32
  · rw [computeTemperature_zero hd] at hresult
    cases hresult
  · rw [computeTemperature_nonzero hd] at hresult
    obtain ⟨rfl, rfl⟩ := Prod.mk.inj (Option.some.inj hresult)
    have hb5 := toInt_tempB5 hmc hmd ut
    have hquot := tempQuotient_mem hmc ((tempX1 ut c).toInt + c.md.toInt)
    exact ⟨hb5, toInt_tempT10 (by omega)⟩

/-! ### The pressure function (R137, R139) -/

theorem presB6_eq (b5 : I32) : presB6 b5 = b5 - 4000#32 := sub32_eq _ _

theorem presQ_eq (b6 : I32) : presQ b6 = (b6 * b6).sshiftRight 12 := by
  rw [presQ, asr32_eq, mul32_eq]

theorem presX3a_eq (c : Coeffs) (b6 : I32) :
    presX3a c b6 = (c.b2 * presQ b6).sshiftRight 11 + (c.ac2 * b6).sshiftRight 11 := by
  simp only [presX3a, add32_eq, asr32_eq, mul32_eq]

/-- The signed division by 4 is a shift (R132). -/
theorem presB3_eq (c : Coeffs) (b6 : I32) (oss : Oss) :
    presB3 c b6 oss = (((c.ac1 * 4#32 + presX3a c b6) <<< oss.toNat) + 2#32).sshiftRight 2 := by
  rw [presB3, mul32_eq, add32_eq, add32_eq, shl32_eq, ← asr32_eq]
  exact sdiv32_two_pow (n := 2) _ (by decide)

theorem presX3b_eq (c : Coeffs) (b6 : I32) :
    presX3b c b6 =
      ((c.ac3 * b6).sshiftRight 13 + (c.b1 * presQ b6).sshiftRight 16 + 2#32).sshiftRight 2 := by
  simp only [presX3b, add32_eq, asr32_eq, mul32_eq]
  rfl

theorem presB4_eq (c : Coeffs) (b6 : I32) :
    presB4 c b6 = (c.ac4 * (presX3b c b6 + 32768#32)).sshiftRight 15 := by
  rw [presB4, asr32_eq, mul32_eq, add32_eq]
  rfl

/-- The four scales of R123. -/
theorem b7Scale_eq (oss : Oss) : b7Scale oss = BitVec.ofNat 32 (50000 / 2 ^ oss.toNat) := by
  revert oss
  decide

theorem presB7_eq (up b3 : I32) (oss : Oss) :
    presB7 up b3 oss = (up - b3) * BitVec.ofNat 32 (50000 / 2 ^ oss.toNat) := by
  rw [presB7, mul32_eq, sub32_eq, b7Scale_eq]

/-- The Pa step (R138): bit 31 clear is the pattern read as a number below 2^31. -/
theorem paStep_eq (b7 b4 : I32) :
    paStep b7 b4 = if b7.toNat < 2 ^ 31 then (b7 * 2#32) / b4 else (b7 / b4) * 2#32 := by
  have hbit : b7.getLsbD 31 = decide (2 ^ 31 ≤ b7.toNat) := b7.msb_eq_getLsbD_last.symm.trans b7.msb_eq_decide
  have hdouble : shl32 b7 1 = b7 * 2#32 := mul32_eq b7 2
  rw [paStep, hbit, hdouble, mul32_eq, udiv32_eq, udiv32_eq]
  simp only [beq_false, Bool.not_eq_true', decide_eq_false_iff_not, not_le]
  rfl

theorem presPa_eq (p0 : I32) :
    presPa p0 =
      p0 + ((p0.sshiftRight 8 * p0.sshiftRight 8 * 3038#32).sshiftRight 16 +
        (-7357#32 * p0).sshiftRight 16 + 3791#32).sshiftRight 4 := by
  simp only [presPa, add32_eq, asr32_eq, mul32_eq]
  rfl

theorem computePressure_zero {b5 : I32} {c : Coeffs} (hb4 : presB4 c (presB6 b5) = 0#32) (up : I32) (oss : Oss) :
    computePressure up b5 c oss = none :=
  if_pos (beq_iff_eq.mpr hb4)

theorem computePressure_nonzero {b5 : I32} {c : Coeffs} (hb4 : presB4 c (presB6 b5) ≠ 0#32) (up : I32) (oss : Oss) :
    computePressure up b5 c oss =
      let pa := presPa (paStep (presB7 up (presB3 c (presB6 b5) oss) oss) (presB4 c (presB6 b5)))
      some (pa, presHPa pa) :=
  if_neg (mt beq_iff_eq.mp hb4)

/-- Settles O24: each line of R137 is its primitive's bit vector operation, and B4 decides. -/
theorem pressureFunction : Obligations.PressureFunction := by
  intro up b5 c oss
  simp only [← presB6_eq, ← presQ_eq, ← presX3a_eq, ← presB3_eq, ← presX3b_eq, ← presB4_eq, ← presB7_eq,
    ← paStep_eq, ← presPa_eq]
  exact ⟨fun hb4 => computePressure_zero hb4 up oss, fun hb4 => computePressure_nonzero hb4 up oss⟩

/-- Settles O25: doubling a number below 2^31 loses nothing, and neither does doubling the quotient of a divisor of
at least 2. -/
theorem paStepUnsigned : Obligations.PaStepUnsigned := by
  intro b7 b4 hb4
  have hb4 : b4.toNat ≠ 0 := fun h => hb4 (BitVec.eq_of_toNat_eq h)
  have hset (hb7 : 2 ^ 31 ≤ b7.toNat) : (paStep b7 b4).toNat = 2 * (b7.toNat / b4.toNat) % 2 ^ 32 := by
    rw [paStep_eq, if_neg hb7.not_gt, BitVec.toNat_mul, BitVec.toNat_udiv, Nat.mul_comm]
    rfl
  refine ⟨fun hclear => ?_, hset, fun hb7 hone => ?_⟩
  · have hdouble : (b7 * 2#32).toNat = 2 * b7.toNat := by
      rw [BitVec.toNat_mul, BitVec.toNat_ofNat]
      omega
    rw [paStep_eq, if_pos hclear, BitVec.toNat_udiv, hdouble]
  · have hquot : b7.toNat / b4.toNat ≤ b7.toNat / 2 := Nat.div_le_div_left (by omega) two_pos
    rw [hset hb7]
    omega

/-! ### COMPT and COMPP, in each way they can end (R142, R143, R140) -/

/-- Settles O16: the store and the temperature function decide COMPT's response. -/
theorem temperatureOnOperand : Obligations.TemperatureOnOperand := by
  refine fun ut s => ⟨fun hcal => ?_, fun c hcal hresult => ?_, fun c t10 b5 hcal hresult => ?_⟩
  · simp only [exec, execCompt, hcal, State.fail, State.log]
  · simp only [exec, execCompt, hcal, hresult, State.fail, State.log]
  · simp only [exec, execCompt, hcal, hresult, payloadTemp, State.succeed, State.log]

/-- COMPP with its operand legal and the store populated: the pressure function decides. -/
theorem execCompp_entered {s : State} {c : Coeffs} {mode : Byte} (hm : mode.toNat ≤ 3) (hcal : s.cal = some c)
    (up b5 : I32) :
    execCompp up b5 mode s =
      .next ((computePressure up b5 c (BitVec.ofNat 2 mode.toNat)).elim (s.fail .divideByZero) fun result =>
        s.succeed (payloadPres result.1 result.2)) := by
  simp only [execCompp, (modeReserved_eq_zero_iff mode).mpr hm, hcal, modeOss_eq_ofNat]
  cases computePressure up b5 c (BitVec.ofNat 2 mode.toNat) <;> rfl

/-- Settles O17: the operand check comes first; then the store and the pressure function decide COMPP's response. -/
theorem pressureOnOperands : Obligations.PressureOnOperands := by
  refine fun up b5 mode s => ⟨fun hm => ?_, fun hm hcal => ?_, fun hm c hcal hresult => ?_,
    fun hm c pa hPa hcal hresult => ?_⟩
  · have hreserved : modeReserved mode ≠ 0#6 := by
      rw [ne_eq, modeReserved_eq_zero_iff]
      omega
    simp [exec, execCompp, hreserved, State.fail, State.log]
  · simp [exec, execCompp, (modeReserved_eq_zero_iff mode).mpr hm, hcal, State.fail, State.log]
  · rw [exec, execCompp_entered hm hcal, hresult]
    rfl
  · rw [exec, execCompp_entered hm hcal, hresult]
    rfl

/-- Settles O26: a zero divisor leaves COMPT and COMPP without a result; a factor 0 of the product gives each divisor. -/
theorem zeroDivisorHasNoResult : Obligations.ZeroDivisorHasNoResult := by
  refine ⟨fun ut c s hcal hd => ?_, fun up b5 mode c s hm hcal hb4 => ?_, fun ut c hac5 hmd => ?_,
    fun b6 c hzero => ?_⟩
  · obtain ⟨-, hnone, -⟩ := temperatureOnOperand ut s
    exact hnone c hcal (computeTemperature_zero hd)
  · obtain ⟨-, -, hnone, -⟩ := pressureOnOperands up b5 mode s
    exact hnone hm c hcal (computePressure_zero hb4 up _)
  · simp [tempDivisor_eq, tempX1_eq, hac5, hmd]
  · rw [presB4_eq]
    obtain hac4 | hx3b := hzero
    · simp [hac4]
    · simp [hx3b]

end Sys2Proof.Machine
end

/-! ## The acquisition sequencer (spec/44_acquisition.md R160 to R167) -/

section
namespace Sys2Proof.Machine

/-! ### The raw readings (R160, R161) -/

/-- R161: what is left of the 24-bit number fits 32 bits, so nothing is lost in narrowing it. -/
theorem toNat_decodeUP (b0 b1 b2 : Byte) (oss : Oss) :
    (decodeUP [b0, b1, b2] oss).toNat = (b0.toNat * 65536 + b1.toNat * 256 + b2.toNat) / 2 ^ (8 - oss.toNat) := by
  have hle := Nat.div_le_self (b0.toNat * 65536 + b1.toNat * 256 + b2.toNat) (2 ^ (8 - oss.toNat))
  rw [decodeUP, BitVec.toNat_ofNat]
  exact Nat.mod_eq_of_lt (hle.trans_lt (by omega))

/-- R161: 24 bits less the `8 - oss` dropped leave `16 + oss`. -/
theorem toNat_decodeUP_lt (b0 b1 b2 : Byte) (oss : Oss) : (decodeUP [b0, b1, b2] oss).toNat < 2 ^ (16 + oss.toNat) := by
  have hbits : 16 + oss.toNat + (8 - oss.toNat) = 24 := by omega
  rw [toNat_decodeUP, Nat.div_lt_iff_lt_mul (by positivity), ← pow_add, hbits]
  omega

theorem decodeUT_pair (hi lo : Byte) : decodeUT [hi, lo] = hi ++ lo := rfl

/-- Settles O28: both readings are big-endian numbers below 2^31, and at `oss = 0` the shift drops the third byte. -/
theorem rawReadingDecode : Obligations.RawReadingDecode := by
  refine ⟨fun hi lo => toNat_be16 hi lo, fun b0 b1 b2 oss => ⟨?_, toNat_decodeUP_lt b0 b1 b2 oss⟩,
    fun b0 b1 b2 b2' => BitVec.eq_of_toNat_eq ?_⟩
  · have hlt := toNat_decodeUP_lt b0 b1 b2 oss
    have hpow : (2 : Nat) ^ (16 + oss.toNat) ≤ 2 ^ 19 := Nat.pow_le_pow_right two_pos (by omega)
    rw [BitVec.toInt_eq_toNat_of_lt (by omega), toNat_decodeUP]
    push_cast
    rfl
  · have hshift : 2 ^ (8 - (0 : Oss).toNat) = 256 := rfl
    rw [toNat_decodeUP, toNat_decodeUP, hshift]
    omega

/-! ### What MEAST and MEASP share: a command, a wait, a read, with the latch clear (R168) -/

/-- A measurement with `rest` of the answers still to come and `es` recorded: the latch is clear, all else as it was. -/
def State.measuring (s : State) (rest : List Answer) (es : List Event) : State :=
  { s with b5 := none, answers := rest, record := s.record ++ es }

@[simp] theorem State.measuring_record (s : State) (rest : List Answer) (es : List Event) :
    (s.measuring rest es).record = s.record ++ es := rfl

@[simp] theorem State.measuring_oss (s : State) (rest : List Answer) (es : List Event) :
    (s.measuring rest es).oss = s.oss := rfl

theorem State.measuring_fail (s : State) (rest : List Answer) (es : List Event) (st : Status) :
    (s.measuring rest es).fail st =
      { s with b5 := none, answers := rest, record := s.record ++ (es ++ [.response ⟨st, []⟩]) } := by
  simp [State.measuring, State.fail, State.log]

/-- The bus events of a measurement whose command is written, with the outcome of its read (R167). -/
def measureEvents (c : Command) (w : Wait) (n : Nat) (o : TxOutcome) : List Event :=
  [.write 0xF4#8 (commandByte c) (.ok []), .wait w, .read 0xF6#8 n o]

/-- The sequencer after the entry checks of MEAST and MEASP; `k` has the bytes read. -/
def measure (c : Command) (w : Wait) (n : Nat) (s : State) (k : List Byte → State → State) : State :=
  writeCommand c s.clearLatch fun s1 => waitFor w s1 fun s2 => readExact dataReg n s2 k

section
variable {s : State} {rest : List Answer} (c : Command) (w : Wait) {n : Nat} {k : List Byte → State → State}

theorem measure_writeFailed (h : s.answers = .reply .ioError :: rest) :
    measure c w n s k = (s.measuring rest [.write 0xF4#8 (commandByte c) .ioError]).fail .ioError := by
  rw [measure, writeCommand, writeByte_ioError (s := s.clearLatch) h]
  simp [State.measuring, State.fail, State.log, State.clearLatch, ctrlReg]

/-- The command written and the wait over. -/
theorem measure_written {v : List Byte} (h : s.answers = .reply (.ok v) :: rest) :
    measure c w n s k =
      readExact 0xF6#8 n (s.measuring rest [.write 0xF4#8 (commandByte c) (.ok []), .wait w]) k := by
  rw [measure, writeCommand, writeByte_ok (s := s.clearLatch) h, waitFor, State.log_log]
  rfl

theorem measure_readFailed {v : List Byte} (h : s.answers = .reply (.ok v) :: .reply .ioError :: rest) :
    measure c w n s k = (s.measuring rest (measureEvents c w n .ioError)).fail .ioError := by
  rw [measure_written c w h, readExact_ioError rfl]
  simp [State.measuring, State.fail, State.log, measureEvents]

section
variable {v bs : List Byte} (h : s.answers = .reply (.ok v) :: .reply (.ok bs) :: rest)
include h

theorem measure_short (hn : bs.length < n) :
    measure c w n s k = (s.measuring rest (measureEvents c w n (.ok bs))).fail .insufficientData := by
  rw [measure_written c w h, readExact_ok rfl hn.le, if_pos hn]
  simp [State.measuring, State.log, measureEvents]

theorem measure_whole (hn : bs.length = n) :
    measure c w n s k = k bs (s.measuring rest (measureEvents c w n (.ok bs))) := by
  rw [measure_written c w h, readExact_ok rfl hn.le, if_neg hn.not_lt]
  simp [State.measuring, State.log, measureEvents]

end
end

/-! ### MEAST, in each way it can end (R162) -/

/-- How MEAST ends, by the temperature function's result on the reading. -/
def endMeast (ut : Half) (s : State) : Option (I32 × I32) → State
  | none => s.fail .divideByZero
  | some (t10, b5) => (s.latch b5).succeed (payloadMeast t10 b5 ut)

section
variable {s : State} {c : Coeffs} (hs : s.opened = true) (hcal : s.cal = some c)
include hs hcal

theorem execMeast_entered :
    execMeast s =
      .next (measure .temperature .temp 2 s fun bs s3 =>
        endMeast (decodeUT bs) s3 (computeTemperature (decodeUT bs) c)) := by
  simp only [execMeast, State.openedFlag_eq, hs, hcal]
  rfl

variable {v : List Byte} {hi lo : Byte} {rest : List Answer}
  (h : s.answers = .reply (.ok v) :: .reply (.ok [hi, lo]) :: rest)
include h

theorem execMeast_divideByZero (hresult : computeTemperature (hi ++ lo) c = none) :
    execMeast s =
      .next ((s.measuring rest (measureEvents .temperature .temp 2 (.ok [hi, lo]))).fail .divideByZero) := by
  rw [execMeast_entered hs hcal, measure_whole (n := 2) _ _ h rfl, decodeUT_pair, hresult]
  rfl

theorem execMeast_ok {t10 b5 : I32} (hresult : computeTemperature (hi ++ lo) c = some (t10, b5)) :
    execMeast s =
      .next (((s.measuring rest (measureEvents .temperature .temp 2 (.ok [hi, lo]))).latch b5).succeed
        (payloadMeast t10 b5 (hi ++ lo))) := by
  rw [execMeast_entered hs hcal, measure_whole (n := 2) _ _ h rfl, decodeUT_pair, hresult]
  rfl

end

/-- Settles O14: two entry checks refuse; then the write fails, the read fails or is short, or the temperature function
decides on the two bytes. -/
theorem temperaturePath : Obligations.TemperaturePath := by
  refine fun s => ⟨fun hs => ?_, fun hs hcal => ?_, fun hs c hcal => ⟨fun rest h => ?_, fun v rest h => ?_,
    fun v bs rest h hshort => ?_, fun v hi lo rest h hresult => ?_, fun v hi lo rest t10 b5 h hresult => ?_⟩⟩
  · simp [exec, execMeast, hs, State.fail, State.log]
  · simp [exec, execMeast, hs, hcal, State.fail, State.log]
  · rw [exec, execMeast_entered hs hcal, measure_writeFailed _ _ h, State.measuring_fail]
    rfl
  · rw [exec, execMeast_entered hs hcal, measure_readFailed _ _ h, State.measuring_fail]
    rfl
  · rw [exec, execMeast_entered hs hcal, measure_short _ _ h hshort, State.measuring_fail]
    rfl
  · rw [exec, execMeast_divideByZero hs hcal h hresult, State.measuring_fail]
    rfl
  · have hut : bytes16 (hi ++ lo) = [hi, lo] := bytes16_be16 hi lo
    rw [exec, execMeast_ok hs hcal h hresult]
    simp [State.measuring, State.latch, State.succeed, State.log, payloadMeast, hut, measureEvents, commandByte]

/-! ### MEASP, in each way it can end (R163) -/

/-- How MEASP ends, by the pressure function's result on the reading. -/
def endMeasp (up : I32) (s : State) : Option (I32 × I32) → State
  | none => s.fail .divideByZero
  | some (pa, hPa) => s.succeed (payloadMeasp pa hPa up)

section
variable {s : State} {c : Coeffs} {b5 : I32} (hs : s.opened = true) (hcal : s.cal = some c) (hb5 : s.b5 = some b5)
include hs hcal hb5

theorem execMeasp_entered :
    execMeasp s =
      .next (measure (.pressure s.oss) (.delay s.oss) 3 s fun bs s3 =>
        endMeasp (decodeUP bs s.oss) s3 (computePressure (decodeUP bs s.oss) b5 c s.oss)) := by
  simp only [execMeasp, State.openedFlag_eq, hs, hcal, hb5]
  rfl

variable {v : List Byte} {b0 b1 b2 : Byte} {rest : List Answer}
  (h : s.answers = .reply (.ok v) :: .reply (.ok [b0, b1, b2]) :: rest)
include h

theorem execMeasp_divideByZero (hresult : computePressure (decodeUP [b0, b1, b2] s.oss) b5 c s.oss = none) :
    execMeasp s =
      .next ((s.measuring rest (measureEvents (.pressure s.oss) (.delay s.oss) 3 (.ok [b0, b1, b2]))).fail
        .divideByZero) := by
  rw [execMeasp_entered hs hcal hb5, measure_whole (n := 3) _ _ h rfl, hresult]
  rfl

theorem execMeasp_ok {pa hPa : I32}
    (hresult : computePressure (decodeUP [b0, b1, b2] s.oss) b5 c s.oss = some (pa, hPa)) :
    execMeasp s =
      .next ((s.measuring rest (measureEvents (.pressure s.oss) (.delay s.oss) 3 (.ok [b0, b1, b2]))).succeed
        (payloadMeasp pa hPa (decodeUP [b0, b1, b2] s.oss))) := by
  rw [execMeasp_entered hs hcal hb5, measure_whole (n := 3) _ _ h rfl, hresult]
  rfl

end

/-- Settles O15: three entry checks refuse; then the write fails, the read fails or is short, or the pressure function
decides on the three bytes, with the B5 that was latched. -/
theorem pressurePath : Obligations.PressurePath := by
  refine fun s => ⟨fun hs => ?_, fun hs hcal => ?_, fun hs hcal hb5 => ?_, fun hs c b5 hcal hb5 => ?_⟩
  · simp [exec, execMeasp, hs, State.fail, State.log]
  · simp [exec, execMeasp, hs, hcal, State.fail, State.log]
  · obtain ⟨c, hcal⟩ := Option.ne_none_iff_exists'.mp hcal
    simp [exec, execMeasp, hs, hcal, hb5, State.fail, State.log]
  · intro cmd
    have hcmd : commandByte (.pressure s.oss) = cmd := pressureCommandByte_eq s.oss
    clear_value cmd
    subst hcmd
    refine ⟨fun rest h => ?_, fun v rest h => ?_, fun v bs rest h hshort => ?_, fun v b0 b1 b2 rest h hresult => ?_,
      fun v b0 b1 b2 rest pa hPa h hresult => ?_⟩
    · rw [exec, execMeasp_entered hs hcal hb5, measure_writeFailed _ _ h, State.measuring_fail]
      rfl
    · rw [exec, execMeasp_entered hs hcal hb5, measure_readFailed _ _ h, State.measuring_fail]
      rfl
    · rw [exec, execMeasp_entered hs hcal hb5, measure_short _ _ h hshort, State.measuring_fail]
      rfl
    · rw [exec, execMeasp_divideByZero hs hcal hb5 h hresult, State.measuring_fail]
      rfl
    · rw [exec, execMeasp_ok hs hcal hb5 h hresult]
      simp [State.measuring, State.succeed, State.log, payloadMeasp, measureEvents]

/-! ### The full cycle (R167, R81) -/

/-- An OK response lets MEASP follow. -/
theorem acquire_of_succeed {s u : State} {p : List Byte} (h : execMeast s = .next (u.succeed p)) :
    acquire s = execMeasp (u.succeed p) := by
  simp [acquire, h, State.endedOk]

/-- An error response ends the cycle. -/
theorem acquire_of_fail {s u : State} {st : Status} (h : execMeast s = .next (u.fail st)) (hst : st ≠ .ok) :
    acquire s = execMeast s := by
  simp [acquire, h, State.endedOk, hst]

/-- Settles O19: MEAST's OK leaves MEASP the B5 and the coming answers; a zero divisor leaves it unrun. -/
theorem acquisitionCycleRecord : Obligations.AcquisitionCycleRecord := by
  refine fun s c v hi lo rest hs hcal => ⟨fun v' b0 b1 b2 t10 b5 pa hPa h htemp hpres => ?_, fun h htemp => ?_⟩
  · rw [acquire_of_succeed (execMeast_ok hs hcal h htemp)]
    refine ⟨_, measureEvents .temperature .temp 2 (.ok [hi, lo]) ++
      .response ⟨.ok, payloadMeast t10 b5 (hi ++ lo)⟩ ::
      (measureEvents (.pressure s.oss) (.delay s.oss) 3 (.ok [b0, b1, b2]) ++
        [.response ⟨.ok, payloadMeasp pa hPa (decodeUP [b0, b1, b2] s.oss)⟩]),
      execMeasp_ok (s := ((s.measuring _ _).latch b5).succeed _) hs hcal rfl rfl hpres, ?_, rfl, rfl, rfl⟩
    simp
  · exact acquire_of_fail (execMeast_divideByZero hs hcal h htemp) (by decide)

end Sys2Proof.Machine
end

/-! ## Entry checks, statuses, hangs and the record (spec/60_exceptions.md R181 to R192) -/

section
namespace Sys2Proof.Machine

/-! ### The record is never undone (R184) -/

/-- Settles O36: an instruction, a reset that abandons it, and a refusal each add at the end of the record. -/
theorem recordOnlyGrows : Obligations.RecordOnlyGrows := by
  intro s t hstep
  rcases step_cases hstep with ⟨-, rfl⟩ | ⟨i, p, c, u, -, hexec, rfl | ⟨-, n, o, rfl⟩⟩ |
    ⟨p, -, rfl | ⟨-, n, o, rfl⟩⟩ | rfl
  · exact List.prefix_refl _
  · exact (exec_effect hexec).env.record
  · exact List.prefix_append _ _
  · exact List.prefix_append _ _
  · exact List.prefix_append _ _
  · exact List.prefix_refl _

/-! ### The cause table (R181, R74) -/

/-- Settles O31: a response is recorded with OK or with a cause of its row, and then with no payload. -/
theorem statusesStayInTheCauseTable : Obligations.StatusesStayInTheCauseTable := by
  intro i s t es hexec hrec r hr
  cases exec_mayRecord hexec hrec _ (mem_responsesOf hr) with
  | ok => exact ⟨.inl rfl, fun hne => absurd rfl hne⟩
  | error cause => exact ⟨.inr cause, fun _ => rfl⟩

/-! ### Emission and idling (R191, R82) -/

theorem resetNow_iff (s : State) : s.resetNow = true ↔ s.resets.headD .no = .now := by
  cases h : s.resets with
  | nil => simp [State.resetNow, h]
  | cons r rs => simp [State.resetNow, h]

theorem resetNow_eq_false_of_ne_now {s : State} (hr : s.resets.headD .no ≠ .now) : s.resetNow = false :=
  Bool.eq_false_iff.mpr (mt (resetNow_iff s).mp hr)

theorem step_emits {s : State} {c : Command} (hr : s.resets.headD .no = .no) (hh : s.hung = false)
    (hc : s.ctrl = some c) : step s = exec c.instr { s with ctrl := none, resets := s.resets.tail } := by
  have hrun : step s = s.takeCommand.runUnderReset (exec c.instr) := by simp [step, resetNow_eq_false hr, hh, hc]
  exact hrun.trans (runUnderReset_undisturbed hr)

theorem step_idles {s : State} (hr : s.resets.headD .no ≠ .now) (hh : s.hung = false) (hc : s.ctrl = none)
    (hport : decode s.port = .incomplete) : step s = .next s := by
  simp [step, resetNow_eq_false_of_ne_now hr, hh, hc, fetch, hport]

/-- Settles O6: a command handed over goes before the port; fewer bytes than the opcode's length are no request. -/
theorem stepEmitsOrIdles : Obligations.StepEmitsOrIdles :=
  fun _ hh => ⟨fun _ hr hc => step_emits hr hh hc,
    fun hr hc hlen => step_idles hr hh hc (decode_incomplete_iff.mpr hlen)⟩

/-! ### The entry checks (R183) -/

section
variable {s : State} {st : Status}

theorem entryStatus_openSensor_eq_some {b : Byte} {a : Half} {w : Byte} {c : BitVec 32} {m : Byte} :
    entryStatus (.openSensor b a w c m) s = some st ↔
      3 < m.toNat ∧ .illegalOperand = st ∨ m.toNat ≤ 3 ∧ s.opened = true ∧ .alreadyOpen = st := by
  simp [entryStatus, Instr.WellFormed, ite_eq_iff]

theorem entryStatus_wrb_eq_some {reg val : Byte} :
    entryStatus (.wrb reg val) s = some st ↔ s.opened = false ∧ .closed = st := by
  simp [entryStatus, Instr.WellFormed]

theorem entryStatus_rdb_eq_some {reg len : Byte} :
    entryStatus (.rdb reg len) s = some st ↔
      len.toNat = 0 ∧ .illegalOperand = st ∨ len.toNat ≠ 0 ∧ s.opened = false ∧ .closed = st := by
  simp [entryStatus, Instr.WellFormed, ite_eq_iff, Nat.one_le_iff_ne_zero]

theorem entryStatus_ldcal_eq_some :
    entryStatus .ldcal s = some st ↔
      s.opened = false ∧ .closed = st ∨ s.opened = true ∧ s.cal ≠ none ∧ .calLocked = st := by
  simp [entryStatus, Instr.WellFormed, ite_eq_iff, Option.isSome_iff_ne_none]

theorem entryStatus_meast_eq_some :
    entryStatus .meast s = some st ↔
      s.opened = false ∧ .closed = st ∨ s.opened = true ∧ s.cal = none ∧ .uncalibrated = st := by
  simp [entryStatus, Instr.WellFormed, ite_eq_iff]

theorem entryStatus_measp_eq_some :
    entryStatus .measp s = some st ↔
      s.opened = false ∧ .closed = st ∨
        s.opened = true ∧ (s.cal = none ∧ .uncalibrated = st ∨
          s.cal ≠ none ∧ s.b5 = none ∧ .missingDependency = st) := by
  simp [entryStatus, Instr.WellFormed, ite_eq_iff]

theorem entryStatus_compt_eq_some {ut : Half} :
    entryStatus (.compt ut) s = some st ↔ s.cal = none ∧ .uncalibrated = st := by
  simp [entryStatus, Instr.WellFormed]

theorem entryStatus_compp_eq_some {up b5 : I32} {m : Byte} :
    entryStatus (.compp up b5 m) s = some st ↔
      3 < m.toNat ∧ .illegalOperand = st ∨ m.toNat ≤ 3 ∧ s.cal = none ∧ .uncalibrated = st := by
  simp [entryStatus, Instr.WellFormed, ite_eq_iff]

/-! #### With every check passed -/

theorem entryStatus_openSensor_eq_none {b : Byte} {a : Half} {w : Byte} {c : BitVec 32} {m : Byte} :
    entryStatus (.openSensor b a w c m) s = none ↔ m.toNat ≤ 3 ∧ s.opened = false := by
  simp [entryStatus, Instr.WellFormed, ite_eq_iff]

theorem entryStatus_wrb_eq_none {reg val : Byte} : entryStatus (.wrb reg val) s = none ↔ s.opened = true := by
  simp [entryStatus, Instr.WellFormed]

theorem entryStatus_rdb_eq_none {reg len : Byte} :
    entryStatus (.rdb reg len) s = none ↔ len.toNat ≠ 0 ∧ s.opened = true := by
  simp [entryStatus, Instr.WellFormed, ite_eq_iff, Nat.one_le_iff_ne_zero]

theorem entryStatus_ldcal_eq_none : entryStatus .ldcal s = none ↔ s.opened = true ∧ s.cal = none := by
  simp [entryStatus, Instr.WellFormed, ite_eq_iff]

theorem entryStatus_meast_eq_none : entryStatus .meast s = none ↔ s.opened = true ∧ ∃ c, s.cal = some c := by
  simp [entryStatus, Instr.WellFormed, ite_eq_iff, Option.ne_none_iff_exists']

theorem entryStatus_measp_eq_none :
    entryStatus .measp s = none ↔ s.opened = true ∧ (∃ c, s.cal = some c) ∧ ∃ b5, s.b5 = some b5 := by
  simp [entryStatus, Instr.WellFormed, ite_eq_iff, Option.ne_none_iff_exists']

theorem entryStatus_compt_eq_none {ut : Half} : entryStatus (.compt ut) s = none ↔ ∃ c, s.cal = some c := by
  simp [entryStatus, Instr.WellFormed, Option.ne_none_iff_exists']

theorem entryStatus_compp_eq_none {up b5 : I32} {m : Byte} :
    entryStatus (.compp up b5 m) s = none ↔ m.toNat ≤ 3 ∧ ∃ c, s.cal = some c := by
  simp [entryStatus, Instr.WellFormed, ite_eq_iff, Option.ne_none_iff_exists']

end

/-- Settles O30: the first clauses of what each operation does are its entry checks, in the order of the rule. -/
theorem entryCheckChangesNothing : Obligations.EntryCheckChangesNothing := by
  intro i s st h
  cases i with
  | openSensor b a w c m =>
    obtain ⟨hillegal, halready, -⟩ := openConstructsSensor b a w c m s
    rcases entryStatus_openSensor_eq_some.mp h with ⟨hm, rfl⟩ | ⟨hm, ho, rfl⟩
    · exact hillegal hm
    · exact halready hm ho
  | wrb reg val =>
    obtain ⟨hclosed, -⟩ := writeByteOperation reg val s
    obtain ⟨ho, rfl⟩ := entryStatus_wrb_eq_some.mp h
    exact hclosed ho
  | rdb reg len =>
    obtain ⟨hillegal, hclosed, -⟩ := readBytesOperation reg len s
    rcases entryStatus_rdb_eq_some.mp h with ⟨hl, rfl⟩ | ⟨hl, ho, rfl⟩
    · exact hillegal hl
    · exact hclosed hl ho
  | ldcal =>
    obtain ⟨hclosed, hlocked, -⟩ := loadCalibration s
    rcases entryStatus_ldcal_eq_some.mp h with ⟨ho, rfl⟩ | ⟨ho, hcal, rfl⟩
    · exact hclosed ho
    · exact hlocked ho hcal
  | meast =>
    obtain ⟨hclosed, huncal, -⟩ := temperaturePath s
    rcases entryStatus_meast_eq_some.mp h with ⟨ho, rfl⟩ | ⟨ho, hcal, rfl⟩
    · exact hclosed ho
    · exact huncal ho hcal
  | measp =>
    obtain ⟨hclosed, huncal, hmissing, -⟩ := pressurePath s
    rcases entryStatus_measp_eq_some.mp h with ⟨ho, rfl⟩ | ⟨ho, ⟨hcal, rfl⟩ | ⟨hcal, hb5, rfl⟩⟩
    · exact hclosed ho
    · exact huncal ho hcal
    · exact hmissing ho hcal hb5
  | compt ut =>
    obtain ⟨huncal, -⟩ := temperatureOnOperand ut s
    obtain ⟨hcal, rfl⟩ := entryStatus_compt_eq_some.mp h
    exact huncal hcal
  | compp up b5 m =>
    obtain ⟨hillegal, huncal, -⟩ := pressureOnOperands up b5 m s
    rcases entryStatus_compp_eq_some.mp h with ⟨hm, rfl⟩ | ⟨hm, hcal, rfl⟩
    · exact hillegal hm
    · exact huncal hm hcal
  | closeSensor | cmdTemp | cmdPres => cases h

/-! ### A silent transport (R192, R211) -/

section
variable {s : State} {rest : List Answer}

theorem measure_writeSilent (hn : s.answers = .never :: rest) (c : Command) (w : Wait) (n : Nat)
    (k : List Byte → State → State) :
    measure c w n s k = afterSilence s.clearLatch rest (.write 0xF4#8 (commandByte c) .unanswered) := by
  rw [measure, writeCommand, writeByte, transact_never (s := s.clearLatch) hn]
  rfl

/-- The first transaction never answered: the operation ends there, with nothing but it on record. -/
theorem exec_silenced {i : Instr} {e : Event} (he : firstTransaction i s .unanswered = some e)
    (hpass : entryStatus i s = none) (hn : s.answers = .never :: rest) :
    ∃ u, u.record = s.record ∧ exec i s = .next (afterSilence u rest e) := by
  cases i with
  | openSensor b a w c m =>
    obtain ⟨hm, ho⟩ := entryStatus_openSensor_eq_none.mp hpass
    obtain rfl := Option.some.inj he
    exact ⟨s, rfl, (execOpen_entered ho hm b a w c).trans (congrArg _ (transact_never hn))⟩
  | wrb reg val =>
    have ho := entryStatus_wrb_eq_none.mp hpass
    obtain rfl := Option.some.inj he
    exact ⟨s, rfl, (execWrb_entered ho reg val).trans (congrArg _ (transact_never hn))⟩
  | rdb reg len =>
    obtain ⟨hl, ho⟩ := entryStatus_rdb_eq_none.mp hpass
    obtain rfl := Option.some.inj he
    exact ⟨s, rfl, (execRdb_entered ho hl reg).trans (congrArg _ (transact_never hn))⟩
  | ldcal =>
    obtain ⟨ho, hcal⟩ := entryStatus_ldcal_eq_none.mp hpass
    obtain rfl := Option.some.inj he
    exact ⟨s, rfl, (execLdcal_entered ho hcal).trans (congrArg _ (transact_never hn))⟩
  | meast =>
    obtain ⟨ho, c, hcal⟩ := entryStatus_meast_eq_none.mp hpass
    obtain rfl := Option.some.inj he
    exact ⟨s.clearLatch, rfl, (execMeast_entered ho hcal).trans (congrArg _ (measure_writeSilent hn _ _ _ _))⟩
  | measp =>
    obtain ⟨ho, ⟨c, hcal⟩, b5, hb5⟩ := entryStatus_measp_eq_none.mp hpass
    obtain rfl := Option.some.inj he
    rw [← pressureCommandByte_eq]
    exact ⟨s.clearLatch, rfl, (execMeasp_entered ho hcal hb5).trans (congrArg _ (measure_writeSilent hn _ _ _ _))⟩
  | closeSensor | compt | compp | cmdTemp | cmdPres => cases he

section
variable {v : List Byte} (h : s.answers = .reply (.ok v) :: .never :: rest)
include h

theorem measure_readSilent (c : Command) (w : Wait) (n : Nat) (k : List Byte → State → State) :
    measure c w n s k =
      afterSilence (s.measuring (.never :: rest) [.write 0xF4#8 (commandByte c) (.ok []), .wait w]) rest
        (.read 0xF6#8 n .unanswered) :=
  (measure_written c w h).trans (transact_never rfl)

/-- The data read never answered: the command and the wait are on record before it. -/
theorem exec_measurement_silenced {i : Instr} (hi : i = .meast ∨ i = .measp) (hpass : entryStatus i s = none) :
    ∃ c w n, exec i s =
      .next (afterSilence (s.measuring (.never :: rest) [.write 0xF4#8 (commandByte c) (.ok []), .wait w]) rest
        (.read 0xF6#8 n .unanswered)) := by
  rcases hi with rfl | rfl
  · obtain ⟨ho, c, hcal⟩ := entryStatus_meast_eq_none.mp hpass
    exact ⟨_, _, _, (execMeast_entered ho hcal).trans (congrArg _ (measure_readSilent h _ _ _ _))⟩
  · obtain ⟨ho, ⟨c, hcal⟩, b5, hb5⟩ := entryStatus_measp_eq_none.mp hpass
    exact ⟨_, _, _, (execMeasp_entered ho hcal hb5).trans (congrArg _ (measure_readSilent h _ _ _ _))⟩

end
end

/-- Settles O34: a request ends silenced only if an answer is `never`; one in front of either transaction silences it. -/
theorem hangOnlyWhenTransportIsSilent : Obligations.HangOnlyWhenTransportIsSilent := by
  refine ⟨fun i s hi hreply => ?_, fun i s e rest he hpass hn => ?_, fun i s bs rest hi hpass h => ?_,
    fun s hh hr => ?_, fun s hh hr => ?_⟩
  · obtain ⟨t, hexec, ⟨hhung, bus, r, hrec, hbus⟩ | ⟨-, hnever, -⟩⟩ := exec_request_ended hi s
    · exact ⟨t, bus, r, hexec, hhung, hrec, hbus⟩
    · obtain ⟨r, hr⟩ := hreply _ hnever
      cases hr
  · obtain ⟨u, hu, hexec⟩ := exec_silenced he hpass hn
    exact ⟨_, hexec, rfl, by simp [hu], rfl⟩
  · obtain ⟨c, w, n, hexec⟩ := exec_measurement_silenced h hi hpass
    exact ⟨_, _, hexec, rfl, by rw [afterSilence_record, State.measuring_record, List.append_assoc], rfl⟩
  · simp [step, resetNow_eq_false_of_ne_now hr, hh]
  · exact ⟨s.takeReset.applyReset, by simp [step, (resetNow_iff s).mpr hr], rfl, rfl, rfl, rfl⟩

/-! ### No status is remembered (R185, R11) -/

/-- Two operations, begun in `s` and `s'`, have come to `u` and `u'` side by side: the registers and what is to come from the
transport are equal, and both have recorded the same events. -/
structure SideBySide (s s' u u' : State) : Prop where
  regs : u'.regs = u.regs
  answers : u'.answers = u.answers
  draws : u'.draws = u.draws
  record : ∃ es, u.record = s.record ++ es ∧ u'.record = s'.record ++ es

namespace SideBySide

variable {s s' u u' : State} (h : SideBySide s s' u u')
include h

/-! #### The registers, one by one -/

theorem opened : u'.opened = u.opened := congrArg Regs.opened h.regs

theorem oss : u'.oss = u.oss := congrArg Regs.oss h.regs

theorem cal : u'.cal = u.cal := congrArg Regs.cal h.regs

theorem b5 : u'.b5 = u.b5 := congrArg Regs.b5 h.regs

/-! #### Events and register updates -/

theorem log (e : Event) : SideBySide s s' (u.log e) (u'.log e) := by
  obtain ⟨es, hes, hes'⟩ := h.record
  exact { h with record := ⟨es ++ [e], by simp [hes], by simp [hes']⟩ }

theorem succeed (p : List Byte) : SideBySide s s' (u.succeed p) (u'.succeed p) := h.log _

theorem fail (st : Status) : SideBySide s s' (u.fail st) (u'.fail st) := h.log _

theorem clearLatch : SideBySide s s' u.clearLatch u'.clearLatch := { h with regs := by simp [h.regs] }

theorem latch (v : I32) : SideBySide s s' (u.latch v) (u'.latch v) := { h with regs := by simp [h.regs] }

theorem populate (c : Coeffs) : SideBySide s s' (u.populate c) (u'.populate c) := { h with regs := by simp [h.regs] }

theorem release : SideBySide s s' u.release u'.release := { h with regs := by simp [h.regs] }

theorem construct (b : Byte) (a : Half) (w : Byte) (c : BitVec 32) (o : Oss) :
    SideBySide s s' (u.construct b a w c o) (u'.construct b a w c o) := { h with regs := rfl }

/-! #### A transaction gives both the same answer -/

theorem transact {n : Nat} {event : TxOutcome → Event} {k k' : Reply → State → State}
    (go : ∀ r {v v'}, SideBySide s s' v v' → SideBySide s s' (k r v) (k' r v')) :
    SideBySide s s' (transact n event u k) (transact n event u' k') := by
  have taken : ∀ rest d hung hung', SideBySide s s' { u with answers := rest, draws := d, hung := hung }
      { u' with answers := rest, draws := d, hung := hung' } :=
    fun _ _ _ _ => ⟨h.regs, rfl, rfl, h.record⟩
  unfold Machine.transact
  rw [h.answers, h.draws]
  split
  · exact go _ ((taken _ _ _ _).log _)
  · exact go _ ((taken _ _ _ _).log _)
  · exact (taken _ _ _ _).log _

theorem writeByte {addr v : Byte} {k k' : State → State}
    (go : ∀ {v v'}, SideBySide s s' v v' → SideBySide s s' (k v) (k' v')) :
    SideBySide s s' (writeByte addr v u k) (writeByte addr v u' k') :=
  h.transact fun r _ _ h => by
    cases r with
    | ioError => exact h.fail _
    | ok => exact go h

theorem busOpen {b : Byte} {a : Half} {w : Byte} {c : BitVec 32} {k k' : State → State}
    (go : ∀ {v v'}, SideBySide s s' v v' → SideBySide s s' (k v) (k' v')) :
    SideBySide s s' (busOpen b a w c u k) (busOpen b a w c u' k') :=
  h.transact fun r _ _ h => by
    cases r with
    | ioError => exact h.fail _
    | ok => exact go h

theorem readExact {addr : Byte} {n : Nat} {k k' : List Byte → State → State}
    (go : ∀ bs {v v'}, SideBySide s s' v v' → SideBySide s s' (k bs v) (k' bs v')) :
    SideBySide s s' (readExact addr n u k) (readExact addr n u' k') :=
  h.transact fun r _ _ h => by
    cases r with
    | ioError => exact h.fail _
    | ok bs =>
      dsimp only
      split
      · exact h.fail _
      · exact go bs h

theorem waitFor {w : Wait} {k k' : State → State}
    (go : ∀ {v v'}, SideBySide s s' v v' → SideBySide s s' (k v) (k' v')) :
    SideBySide s s' (waitFor w u k) (waitFor w u' k') :=
  go (h.log _)

theorem measure {c : Command} {w : Wait} {n : Nat} {k k' : List Byte → State → State}
    (go : ∀ bs {v v'}, SideBySide s s' v v' → SideBySide s s' (k bs v) (k' bs v')) :
    SideBySide s s' (measure c w n u k) (measure c w n u' k') :=
  h.clearLatch.writeByte fun h => h.waitFor fun h => h.readExact go

theorem emitCommand (c : Command) : SideBySide s s' (emitCommand c u) (emitCommand c u') := by
  cases ho : u.opened with
  | false =>
    rw [emitCommand_closed ho, emitCommand_closed (h.opened.trans ho)]
    exact h
  | true =>
    simp only [Machine.emitCommand, State.openedFlag_eq, h.opened, ho, if_true]
    exact h.transact fun _ _ _ h => h

theorem entryStatus_eq (i : Instr) : entryStatus i u' = entryStatus i u := by
  simp only [entryStatus, h.opened, h.cal, h.b5]

end SideBySide

/-! #### CLOSE, COMPT, and every instruction -/

theorem execClose_closed {s : State} (hs : s.opened = false) : execClose s = .next (s.release.succeed []) := by
  simp [execClose, hs]

theorem execClose_open {s : State} (hs : s.opened = true) :
    execClose s = .next ((s.log .busClose).release.succeed []) := by
  simp [execClose, hs]

theorem execCompt_entered {s : State} {c : Coeffs} (hcal : s.cal = some c) (ut : Half) :
    execCompt ut s =
      .next ((computeTemperature ut c).elim (s.fail .divideByZero) fun result =>
        s.succeed (payloadTemp result.1 result.2)) := by
  simp only [execCompt, hcal]
  cases computeTemperature ut c <;> rfl

section
variable {s s' : State} (h : SideBySide s s' s s')
include h

theorem execClose_sideBySide :
    ∃ t t', execClose s = .next t ∧ execClose s' = .next t' ∧ SideBySide s s' t t' := by
  cases ho : s.opened with
  | false => exact ⟨_, _, execClose_closed ho, execClose_closed (h.opened.trans ho), h.release.succeed _⟩
  | true =>
    exact ⟨_, _, execClose_open ho, execClose_open (h.opened.trans ho), (h.log .busClose).release.succeed _⟩

/-- From equal registers every instruction goes the same way: an entry check refuses both, or both pass them all. -/
theorem exec_sideBySide (i : Instr) :
    ∃ t t', exec i s = .next t ∧ exec i s' = .next t' ∧ SideBySide s s' t t' := by
  cases hst : entryStatus i s with
  | some st =>
    have hst' : entryStatus i s' = some st := (h.entryStatus_eq i).trans hst
    exact ⟨s.fail st, s'.fail st, entryCheckChangesNothing i s st hst, entryCheckChangesNothing i s' st hst', h.fail st⟩
  | none =>
    cases i with
    | openSensor b a w c m =>
      obtain ⟨hm, ho⟩ := entryStatus_openSensor_eq_none.mp hst
      exact ⟨_, _, execOpen_entered ho hm b a w c, execOpen_entered (h.opened.trans ho) hm b a w c,
        h.busOpen fun h => (h.construct b a w c _).waitFor fun h => h.succeed _⟩
    | closeSensor => exact execClose_sideBySide h
    | wrb reg val =>
      have ho := entryStatus_wrb_eq_none.mp hst
      exact ⟨_, _, execWrb_entered ho reg val, execWrb_entered (h.opened.trans ho) reg val,
        h.writeByte fun h => h.succeed _⟩
    | rdb reg len =>
      obtain ⟨hl, ho⟩ := entryStatus_rdb_eq_none.mp hst
      exact ⟨_, _, execRdb_entered ho hl reg, execRdb_entered (h.opened.trans ho) hl reg,
        h.readExact fun _ _ _ h => h.succeed _⟩
    | ldcal =>
      obtain ⟨ho, hcal⟩ := entryStatus_ldcal_eq_none.mp hst
      exact ⟨_, _, execLdcal_entered ho hcal, execLdcal_entered (h.opened.trans ho) (h.cal.trans hcal),
        h.readExact fun _ _ _ h => (h.populate _).succeed _⟩
    | meast =>
      obtain ⟨ho, c, hcal⟩ := entryStatus_meast_eq_none.mp hst
      refine ⟨_, _, execMeast_entered ho hcal, execMeast_entered (h.opened.trans ho) (h.cal.trans hcal),
        h.measure fun bs _ _ h => ?_⟩
      cases computeTemperature (decodeUT bs) c with
      | none => exact h.fail _
      | some result => exact (h.latch _).succeed _
    | measp =>
      obtain ⟨ho, ⟨c, hcal⟩, b5, hb5⟩ := entryStatus_measp_eq_none.mp hst
      refine ⟨_, _, execMeasp_entered ho hcal hb5,
        execMeasp_entered (h.opened.trans ho) (h.cal.trans hcal) (h.b5.trans hb5), ?_⟩
      rw [h.oss]
      refine h.measure fun bs _ _ h => ?_
      cases computePressure (decodeUP bs s.oss) b5 c s.oss with
      | none => exact h.fail _
      | some result => exact h.succeed _
    | compt ut =>
      obtain ⟨c, hcal⟩ := entryStatus_compt_eq_none.mp hst
      refine ⟨_, _, execCompt_entered hcal ut, execCompt_entered (h.cal.trans hcal) ut, ?_⟩
      cases computeTemperature ut c with
      | none => exact h.fail _
      | some result => exact h.succeed _
    | compp up b5 m =>
      obtain ⟨hm, c, hcal⟩ := entryStatus_compp_eq_none.mp hst
      refine ⟨_, _, execCompp_entered hm hcal up b5, execCompp_entered hm (h.cal.trans hcal) up b5, ?_⟩
      cases computePressure up b5 c (BitVec.ofNat 2 m.toNat) with
      | none => exact h.fail _
      | some result => exact h.succeed _
    | cmdTemp => exact ⟨_, _, rfl, rfl, h.emitCommand _⟩
    | cmdPres => exact ⟨_, _, rfl, rfl, h.emitCommand _⟩

end

/-- Settles O35: the two states are side by side, with nothing yet recorded, and every instruction keeps them so. -/
theorem requestJudgedOnRegistersAlone : Obligations.RequestJudgedOnRegistersAlone := by
  intro i s s' hregs hans hdraws
  have h : SideBySide s s' s s' := ⟨hregs, hans, hdraws, [], by simp, by simp⟩
  obtain ⟨t, t', hexec, hexec', hend⟩ := exec_sideBySide h i
  obtain ⟨es, hrec, hrec'⟩ := hend.record
  exact ⟨t, t', es, hexec, hexec', hend.regs, hrec, hrec'⟩

end Sys2Proof.Machine
end

/-! ## Reset, between operations and at every moment of one (spec/70_reset_and_hazards.md R210, R211, R220) -/

section
namespace Sys2Proof.Machine

/-- Settles O49: the reset input is looked at before anything else. -/
theorem resetInput : Obligations.ResetInput := by
  intro s rs hr
  have hnow : s.resetNow = true := (resetNow_iff s).mpr (by rw [hr]; rfl)
  exact ⟨s.takeReset.applyReset, by rw [step, if_pos hnow],
    ⟨rfl, rfl, rfl⟩, rfl, congrArg List.tail hr, rfl, rfl, rfl⟩

/-! ### The bus events an operation would have -/

/-- The bus events that instruction `i`, begun in `s`, has when no reset comes. -/
def busEvents (i : Instr) (s : State) : List Event :=
  match exec i s with
  | .next u => busOf (u.record.drop s.record.length)
  | .fault _ => []
  | .refused _ => []

section
variable {i : Instr} {s u : State}

theorem exec_next (i : Instr) (s : State) : ∃ u, exec i s = .next u := by
  obtain ⟨u, -, -, hu, -⟩ := requestJudgedOnRegistersAlone i s s rfl rfl rfl
  exact ⟨u, hu⟩

theorem busEvents_of_exec (hexec : exec i s = .next u) : busEvents i s = busOf (u.record.drop s.record.length) := by
  simp only [busEvents, hexec]

theorem busEvents_eq {es : List Event} (hexec : exec i s = .next u) (hrec : u.record = s.record ++ es) :
    busEvents i s = busOf es := by
  rw [busEvents_of_exec hexec, hrec, List.drop_left]

/-- What an operation does on the bus depends on nothing but the registers and the coming answers (R185). -/
theorem busEvents_congr {s' : State} (hregs : s'.regs = s.regs) (hans : s'.answers = s.answers)
    (hdraws : s'.draws = s.draws) : busEvents i s' = busEvents i s := by
  obtain ⟨u, u', es, hu, hu', -, hrec, hrec'⟩ := requestJudgedOnRegistersAlone i s s' hregs hans hdraws
  rw [busEvents_eq hu hrec, busEvents_eq hu' hrec']

end

/-! ### No response among what has happened -/

theorem response_notMem_outstanding (e : Event) (r : Response) : .response r ∉ e.outstanding := by
  cases e <;> simp [Event.outstanding]

theorem response_notMem_busOf (es : List Event) (r : Response) : .response r ∉ busOf es := by
  induction es with
  | nil => exact List.not_mem_nil
  | cons e es ih => cases e <;> simpa [busOf] using ih

/-- A reset lets no response of the abandoned operation appear (R211). -/
theorem responsesOf_happened (n : Nat) (o : Bool) (es : List Event) : responsesOf (happened n o (busOf es)) = [] := by
  refine List.eq_nil_iff_forall_not_mem.mpr fun r hr => ?_
  rcases List.mem_append.mp (mem_responsesOf hr) with hmem | hmem
  · exact response_notMem_busOf es r (List.mem_of_mem_take hmem)
  · cases o with
    | false => cases hmem
    | true =>
      obtain ⟨e, -, he⟩ := List.mem_flatMap.mp hmem
      exact response_notMem_outstanding e r he

/-! ### A step with a reset during it -/

/-- What R211 says, with the moment counted in `bus`, the bus events the operation would have had. -/
def AbandonedAt (s t : State) (rest : List Byte) (n : Nat) (o : Bool) (bus : List Event) : Prop :=
  s.AbandonedTo t rest (happened n o bus) (answersTaken (bus.take n))

/-- After the operation's last bus event all of them stay, and no transaction is outstanding. -/
theorem AbandonedAt.of_length_le {s t : State} {rest : List Byte} {n : Nat} {o : Bool} {bus : List Event}
    (h : AbandonedAt s t rest n o bus) (hn : bus.length ≤ n) : s.AbandonedTo t rest bus (answersTaken bus) := by
  simpa [AbandonedAt, happened, List.take_of_length_le hn, List.drop_of_length_le hn] using h

theorem abandon_abandonedAt {s v : State} (hans : v.answers = s.answers) (hrec : v.record = s.record)
    (hres : v.resets = s.resets) (n : Nat) (o : Bool) (bus : List Event) :
    AbandonedAt s (v.takeReset.abandon n o bus) v.port n o bus := by
  refine ⟨⟨rfl, rfl, rfl⟩, rfl, ?_, rfl, ?_, ?_⟩ <;> simp [hans, hrec, hres]

section
variable {s : State} {n : Nat} {o : Bool} {rs : List HostReset} (hr : s.resets = .during n o :: rs)
include hr

/-- An operation begun in `v`, which is `s` with what the operation answers taken from the port or the emitter. -/
theorem runUnderReset_abandonedAt {v : State} (i : Instr) (hregs : v.regs = s.regs) (hans : v.answers = s.answers)
    (hdraws : v.draws = s.draws) (hrec : v.record = s.record) (hres : v.resets = s.resets) :
    ∃ t, v.runUnderReset (exec i) = .next t ∧ AbandonedAt s t v.port n o (busEvents i s) := by
  obtain ⟨u, hu⟩ := exec_next i v.takeReset
  have hbus : busEvents i s = busOf (u.record.drop v.record.length) :=
    (busEvents_congr (s' := v.takeReset) hregs hans hdraws).symm.trans (busEvents_of_exec hu)
  rw [hbus]
  exact ⟨_, runUnderReset_abandoned (hres.trans hr) hu, abandon_abandonedAt hans hrec hres n o _⟩

variable (hh : s.hung = false)
include hh

theorem step_request_abandoned {i : Instr} {rest : List Byte} (hc : s.ctrl = none)
    (hdec : decode s.port = .operation i rest ∨ decode s.port = .illegalOperand i rest) :
    ∃ t, step s = .next t ∧ AbandonedAt s t rest n o (busEvents i s) := by
  have hrun : step s = (s.take rest).runUnderReset (exec i) := by
    rcases hdec with hdec | hdec <;> simp [step, State.resetNow, hr, hh, hc, fetch, hdec]
  rw [hrun]
  exact runUnderReset_abandonedAt hr i rfl rfl rfl rfl rfl

theorem step_emission_abandoned {c : Command} (hc : s.ctrl = some c) :
    ∃ t, step s = .next t ∧ AbandonedAt s t s.port n o (busEvents c.instr s) := by
  have hrun : step s = s.takeCommand.runUnderReset (exec c.instr) := by simp [step, State.resetNow, hr, hh, hc]
  rw [hrun]
  exact runUnderReset_abandonedAt hr c.instr rfl rfl rfl rfl rfl

/-- A reserved opcode's refusal has no bus event, so nothing has happened when the reset comes. -/
theorem step_refusal_abandoned {op : Byte} {rest : List Byte} (hc : s.ctrl = none)
    (hdec : decode s.port = .illegalOperation op rest) :
    ∃ t, step s = .next t ∧ s.AbandonedTo t rest [] 0 := by
  have hrun : step s = (s.take rest).runUnderReset fun u => .next (illegalOperation u) := by
    simp [step, State.resetNow, hr, hh, hc, fetch, hdec]
  have hbus : busOf ((illegalOperation (s.take rest).takeReset).record.drop (s.take rest).record.length) = [] := by
    simp [illegalOperation, busOf]
  have habandoned := abandon_abandonedAt (s := s) (v := s.take rest) rfl rfl rfl n o []
  refine ⟨_, hrun.trans (runUnderReset_abandoned hr rfl), ?_⟩
  rw [hbus]
  exact habandoned.of_length_le (Nat.zero_le n)

end

/-- Settles O50: a step with a reset during it abandons what it began, whose record gives the bus events. -/
theorem resetAbandonsOperation : Obligations.ResetAbandonsOperation := by
  intro s n o rs hr hh
  refine ⟨fun i rest u es hc hdec hexec hrec => ?_, fun op rest hc hdec => step_refusal_abandoned hr hh hc hdec,
    fun c u es hc hexec hrec => ?_⟩
  · have hbus : busOf es = busEvents i s := (busEvents_eq hexec hrec).symm.trans (busEvents_congr rfl rfl rfl)
    obtain ⟨t, hstep, ht⟩ := step_request_abandoned hr hh hc hdec
    rw [← hbus] at ht
    exact ⟨t, hstep, ht, responsesOf_happened n o es⟩
  · have hbus : busOf es = busEvents c.instr s := (busEvents_eq hexec hrec).symm.trans (busEvents_congr rfl rfl rfl)
    obtain ⟨t, hstep, ht⟩ := step_emission_abandoned hr hh hc
    rw [← hbus] at ht
    exact ⟨t, hstep, ht, responsesOf_happened n o es⟩

/-! ### The bus events of each operation -/

/-- From `s` to `t` a transaction is recorded first, with some outcome. -/
def Begins (event : TxOutcome → Event) (s t : State) : Prop := ∃ o, s.record ++ [event o] <+: t.record

/-- From `s` to `t` a response is recorded, and nothing else. -/
def Concludes (s t : State) : Prop := ∃ r, t.record = s.record ++ [.response r]

theorem Begins.grows {event : TxOutcome → Event} {s t : State} (h : Begins event s t) : s.record <+: t.record := by
  obtain ⟨o, h⟩ := h
  exact (List.prefix_append _ _).trans h

theorem Concludes.grows {s t : State} (h : Concludes s t) : s.record <+: t.record := by
  obtain ⟨r, h⟩ := h
  exact h ▸ List.prefix_append _ _

/-! #### A transaction, and the rest of the operation after it -/

section
variable {s : State}

theorem writeByte_begins {addr v : Byte} {k : State → State} (hk : ∀ u, u.record <+: (k u).record) :
    Begins (.write addr v) s (writeByte addr v s k) :=
  writeByte_cases (P := Begins (.write addr v) s) (fun _ => ⟨_, List.prefix_append _ _⟩)
    (fun d => ⟨_, hk (afterReply s d _)⟩) fun _ _ => ⟨_, List.prefix_refl _⟩

theorem busOpen_begins {b : Byte} {a : Half} {w : Byte} {c : BitVec 32} {k : State → State}
    (hk : ∀ u, u.record <+: (k u).record) : Begins (.busOpen b a w c) s (busOpen b a w c s k) :=
  busOpen_cases (P := Begins (.busOpen b a w c) s) (fun _ => ⟨_, List.prefix_append _ _⟩)
    (fun d => ⟨_, hk (afterReply s d _)⟩) fun _ _ => ⟨_, List.prefix_refl _⟩

section
variable {addr : Byte} {n : Nat} {k : List Byte → State → State} (hk : ∀ bs u, Concludes u (k bs u))
include hk

theorem readExact_begins : Begins (.read addr n) s (readExact addr n s k) :=
  readExact_cases (P := Begins (.read addr n) s) (fun _ => ⟨_, List.prefix_append _ _⟩)
    (fun _ _ _ => ⟨_, List.prefix_append _ _⟩) (fun d bs _ => ⟨_, (hk bs (afterReply s d _)).grows⟩)
    fun _ _ => ⟨_, List.prefix_refl _⟩

theorem measure_begins {c : Command} {w : Wait} :
    Begins (.write 0xF4#8 (commandByte c)) s (measure c w n s k) :=
  writeByte_begins (s := s.clearLatch) fun u =>
    (List.prefix_append u.record _).trans (readExact_begins (s := u.log (.wait w)) hk).grows

theorem readExact_answered {bs : List Byte} {rest : List Answer} (h : s.answers = .reply (.ok bs) :: rest)
    (hn : bs.length ≤ n) :
    ∃ r, (readExact addr n s k).record = s.record ++ [.read addr n (.ok bs), .response r] := by
  rw [readExact_ok h hn]
  split
  · exact ⟨_, List.append_assoc _ _ _⟩
  · obtain ⟨r, hr⟩ := hk bs ({ s with answers := rest }.log (.read addr n (.ok bs)))
    exact ⟨r, by rw [hr, State.log_record, List.append_assoc]; rfl⟩

end

/-! #### What MEAST and MEASP share (R162, R163) -/

/-- A measurement whose entry checks pass: the sequencer runs, and once it has read it responds. -/
def Measures (i : Instr) (s : State) (c : Command) (w : Wait) (n : Nat) : Prop :=
  ∃ k, exec i s = .next (measure c w n s k) ∧ ∀ bs u, Concludes u (k bs u)

theorem meast_measures (hpass : entryStatus .meast s = none) : Measures .meast s .temperature .temp 2 := by
  obtain ⟨ho, c, hcal⟩ := entryStatus_meast_eq_none.mp hpass
  refine ⟨_, execMeast_entered ho hcal, fun bs u => ?_⟩
  cases computeTemperature (decodeUT bs) c <;> exact ⟨_, rfl⟩

theorem measp_measures (hpass : entryStatus .measp s = none) :
    Measures .measp s (.pressure s.oss) (.delay s.oss) 3 := by
  obtain ⟨ho, ⟨c, hcal⟩, b5, hb5⟩ := entryStatus_measp_eq_none.mp hpass
  refine ⟨_, execMeasp_entered ho hcal hb5, fun bs u => ?_⟩
  cases computePressure (decodeUP bs s.oss) b5 c s.oss <;> exact ⟨_, rfl⟩

section
variable {i : Instr} {c : Command} {w : Wait} {n : Nat} (hm : Measures i s c w n) {v : List Byte} {rest : List Answer}
include hm

/-- Once the command is written, the wait and the data read follow, whatever comes of the read. -/
theorem Measures.busEvents_written (h : s.answers = .reply (.ok v) :: rest) :
    ∃ o es, busEvents i s = measureEvents c w n o ++ es := by
  obtain ⟨k, hexec, hk⟩ := hm
  rw [measure_written c w h] at hexec
  obtain ⟨o, es, hes⟩ := readExact_begins (addr := 0xF6#8) (n := n)
    (s := s.measuring rest [.write 0xF4#8 (commandByte c) (.ok []), .wait w]) hk
  exact ⟨o, busOf es,
    busEvents_eq (es := measureEvents c w n o ++ es) hexec (by rw [← hes]; simp [measureEvents])⟩

theorem Measures.busEvents_read {bs : List Byte} (h : s.answers = .reply (.ok v) :: .reply (.ok bs) :: rest)
    (hn : bs.length ≤ n) : busEvents i s = measureEvents c w n (.ok bs) := by
  obtain ⟨k, hexec, hk⟩ := hm
  rw [measure_written c w h] at hexec
  obtain ⟨r, hrec⟩ := readExact_answered (addr := 0xF6#8)
    (s := s.measuring (.reply (.ok bs) :: rest) [.write 0xF4#8 (commandByte c) (.ok []), .wait w]) hk rfl hn
  exact busEvents_eq (es := measureEvents c w n (.ok bs) ++ [.response r]) hexec (by rw [hrec]; simp [measureEvents])

end

/-! #### The first transaction -/

/-- An operation whose entry checks pass issues its first transaction before all else. -/
theorem exec_begins {i : Instr} {e : Event} (he : firstTransaction i s .unanswered = some e)
    (hpass : entryStatus i s = none) :
    ∃ event u, exec i s = .next u ∧ Begins event s u ∧ ∀ o, (event o).outstanding = [e] := by
  cases i with
  | openSensor b a w c m =>
    obtain ⟨hm, ho⟩ := entryStatus_openSensor_eq_none.mp hpass
    obtain rfl := Option.some.inj he
    exact ⟨_, _, execOpen_entered ho hm b a w c, busOpen_begins fun _ => ⟨_, (List.append_assoc _ _ _).symm⟩,
      fun _ => rfl⟩
  | wrb reg val =>
    have ho := entryStatus_wrb_eq_none.mp hpass
    obtain rfl := Option.some.inj he
    exact ⟨_, _, execWrb_entered ho reg val, writeByte_begins fun _ => List.prefix_append _ _, fun _ => rfl⟩
  | rdb reg len =>
    obtain ⟨hl, ho⟩ := entryStatus_rdb_eq_none.mp hpass
    obtain rfl := Option.some.inj he
    exact ⟨_, _, execRdb_entered ho hl reg, readExact_begins fun _ _ => ⟨_, rfl⟩, fun _ => rfl⟩
  | ldcal =>
    obtain ⟨ho, hcal⟩ := entryStatus_ldcal_eq_none.mp hpass
    obtain rfl := Option.some.inj he
    exact ⟨_, _, execLdcal_entered ho hcal, readExact_begins fun _ _ => ⟨_, rfl⟩, fun _ => rfl⟩
  | meast =>
    obtain ⟨k, hexec, hk⟩ := meast_measures hpass
    obtain rfl := Option.some.inj he
    exact ⟨_, _, hexec, measure_begins hk, fun _ => rfl⟩
  | measp =>
    obtain ⟨k, hexec, hk⟩ := measp_measures hpass
    obtain rfl := Option.some.inj he
    rw [← pressureCommandByte_eq]
    exact ⟨_, _, hexec, measure_begins hk, fun _ => rfl⟩
  | closeSensor | compt | compp | cmdTemp | cmdPres => cases he

theorem busEvents_first {i : Instr} {e : Event} (he : firstTransaction i s .unanswered = some e)
    (hpass : entryStatus i s = none) : ∃ e' es, busEvents i s = e' :: es ∧ e'.outstanding = [e] := by
  obtain ⟨event, u, hexec, ⟨o, es, hes⟩, hout⟩ := exec_begins he hpass
  have hbus : busOf (event o :: es) = event o :: busOf es := by
    have := hout o
    cases h : event o with
    | response => simp [h, Event.outstanding] at this
    | _ => rfl
  rw [List.append_assoc] at hes
  exact ⟨event o, busOf es, (busEvents_eq hexec hes.symm).trans hbus, hout o⟩

/-! #### The other operations, to their end -/

theorem busEvents_closeSensor (ho : s.opened = true) : busEvents .closeSensor s = [.busClose] :=
  busEvents_eq (es := [.busClose, .response ⟨.ok, []⟩]) (execClose_open ho) (List.append_assoc _ _ _)

/-- An operation that only responds has no bus event. -/
theorem Concludes.busEvents {i : Instr} {u : State} (h : Concludes s u) (hexec : exec i s = .next u) :
    busEvents i s = [] := by
  obtain ⟨r, hrec⟩ := h
  exact busEvents_eq hexec hrec

theorem busEvents_refused {i : Instr} {st : Status} (h : entryStatus i s = some st) : busEvents i s = [] :=
  Concludes.busEvents ⟨_, rfl⟩ (entryCheckChangesNothing i s st h)

theorem busEvents_compt (ut : Half) : busEvents (.compt ut) s = [] := by
  cases hst : entryStatus (.compt ut) s with
  | some st => exact busEvents_refused hst
  | none =>
    obtain ⟨c, hcal⟩ := entryStatus_compt_eq_none.mp hst
    refine Concludes.busEvents ?_ (execCompt_entered hcal ut)
    cases computeTemperature ut c <;> exact ⟨_, rfl⟩

theorem busEvents_compp (up b5 : I32) (m : Byte) : busEvents (.compp up b5 m) s = [] := by
  cases hst : entryStatus (.compp up b5 m) s with
  | some st => exact busEvents_refused hst
  | none =>
    obtain ⟨hm, c, hcal⟩ := entryStatus_compp_eq_none.mp hst
    refine Concludes.busEvents ?_ (execCompp_entered hm hcal up b5)
    cases computePressure up b5 c (BitVec.ofNat 2 m.toNat) <;> exact ⟨_, rfl⟩

section
variable {bs : List Byte} {rest : List Answer} (h : s.answers = .reply (.ok bs) :: rest)
include h

theorem busEvents_openSensor {b : Byte} {a : Half} {w : Byte} {c : BitVec 32} {m : Byte}
    (hpass : entryStatus (.openSensor b a w c m) s = none) :
    busEvents (.openSensor b a w c m) s = [.busOpen b a w c (.ok []), .wait .settle] := by
  obtain ⟨hm, ho⟩ := entryStatus_openSensor_eq_none.mp hpass
  obtain ⟨-, -, -, hopens⟩ := openConstructsSensor b a w c m s
  exact busEvents_eq (hopens hm ho bs rest h) rfl

theorem busEvents_wrb {reg val : Byte} (hpass : entryStatus (.wrb reg val) s = none) :
    busEvents (.wrb reg val) s = [.write reg val (.ok [])] := by
  obtain ⟨-, -, hwrites⟩ := writeByteOperation reg val s
  exact busEvents_eq (hwrites (entryStatus_wrb_eq_none.mp hpass) bs rest h) rfl

theorem busEvents_readExact {i : Instr} {addr : Byte} {n : Nat} {k : List Byte → State → State}
    (hexec : exec i s = .next (readExact addr n s k)) (hk : ∀ bs u, Concludes u (k bs u)) (hn : bs.length ≤ n) :
    busEvents i s = [.read addr n (.ok bs)] := by
  obtain ⟨r, hrec⟩ := readExact_answered hk h hn
  exact busEvents_eq hexec hrec

theorem busEvents_rdb {reg len : Byte} (hpass : entryStatus (.rdb reg len) s = none) (hn : bs.length ≤ len.toNat) :
    busEvents (.rdb reg len) s = [.read reg len.toNat (.ok bs)] := by
  obtain ⟨hl, ho⟩ := entryStatus_rdb_eq_none.mp hpass
  exact busEvents_readExact (i := .rdb reg len) h (execRdb_entered ho hl reg) (fun _ _ => ⟨_, rfl⟩) hn

theorem busEvents_ldcal (hpass : entryStatus .ldcal s = none) (hn : bs.length ≤ 22) :
    busEvents .ldcal s = [.read 0xAA#8 22 (.ok bs)] := by
  obtain ⟨ho, hcal⟩ := entryStatus_ldcal_eq_none.mp hpass
  exact busEvents_readExact (i := .ldcal) h (execLdcal_entered ho hcal) (fun _ _ => ⟨_, rfl⟩) hn

end
end

/-! ### Moment by moment -/

section
variable {s t : State} {i : Instr} {rest : List Byte} {n : Nat} {o : Bool}
  (ht : AbandonedAt s t rest n o (busEvents i s))
include ht

theorem abandoned_after_last {bus : List Event} (hbus : busEvents i s = bus) (hn : bus.length ≤ n) :
    s.AbandonedTo t rest bus (answersTaken bus) := by
  subst hbus
  exact ht.of_length_le hn

theorem abandoned_before_first (hn : n = 0) (ho : o = false) : s.AbandonedTo t rest [] 0 := by
  subst hn ho
  simpa [AbandonedAt, happened, answersTaken] using ht

theorem abandoned_during_first {e : Event} (hn : n = 0) (ho : o = true)
    (he : firstTransaction i s .unanswered = some e) (hpass : entryStatus i s = none) :
    s.AbandonedTo t rest [e] 0 := by
  obtain ⟨e', es, hbus, hout⟩ := busEvents_first he hpass
  subst hn ho
  simpa [AbandonedAt, happened, answersTaken, hbus, hout] using ht

/-- The moments of a measurement whose command the transport has accepted: before, in and after the wait, and after the
data read. -/
theorem Measures.abandoned {c : Command} {w : Wait} {len : Nat} (hm : Measures i s c w len) {v : List Byte}
    {more : List Answer} (h : s.answers = .reply (.ok v) :: more) :
    (n = 1 → s.AbandonedTo t rest [.write 0xF4#8 (commandByte c) (.ok [])] 1) ∧
    (n = 2 → s.AbandonedTo t rest ([.write 0xF4#8 (commandByte c) (.ok []), .wait w] ++
      if o then [.read 0xF6#8 len .unanswered] else []) 1) ∧
    (∀ bs more', more = .reply (.ok bs) :: more' → bs.length ≤ len → 3 ≤ n →
      s.AbandonedTo t rest (measureEvents c w len (.ok bs)) 2) := by
  obtain ⟨out, es, hbus⟩ := hm.busEvents_written h
  refine ⟨fun hn => ?_, fun hn => ?_, fun bs more' hmore hlen hn => ?_⟩
  · subst hn
    simpa [AbandonedAt, happened, answersTaken, hbus, measureEvents, Event.outstanding] using ht
  · subst hn
    simpa [AbandonedAt, happened, answersTaken, hbus, measureEvents, Event.outstanding] using ht
  · subst hmore
    exact abandoned_after_last ht (hm.busEvents_read h hlen) hn

end

/-- Settles O51: each operation's bus events, cut at the moment of the reset. -/
theorem resetAtEachMoment : Obligations.ResetAtEachMoment := by
  intro s i rest n o rs ⟨hh, hc, hdec⟩ hr
  obtain ⟨t, hstep, ht⟩ := step_request_abandoned hr hh hc (.inl hdec)
  refine ⟨t, hstep, abandoned_before_first ht, fun hn ho e => abandoned_during_first ht hn ho, ?close, ?compute,
    ?opening, ?wrb, ?rdb, ?ldcal, ?meast, ?measp⟩
  case close =>
    rintro rfl ho hn
    exact abandoned_after_last ht (busEvents_closeSensor ho) hn
  case compute =>
    rintro (⟨ut, rfl⟩ | ⟨up, b5, m, rfl⟩)
    · exact abandoned_after_last ht (busEvents_compt ut) n.zero_le
    · exact abandoned_after_last ht (busEvents_compp up b5 m) n.zero_le
  case opening =>
    rintro b a w c m bs more rfl hpass h
    have hbus := busEvents_openSensor h hpass
    refine ⟨fun hn => ?_, fun hn => abandoned_after_last ht hbus hn⟩
    subst hn
    simpa [AbandonedAt, happened, answersTaken, hbus, Event.outstanding] using ht
  case wrb =>
    rintro reg val bs more rfl hpass h hn
    exact abandoned_after_last ht (busEvents_wrb h hpass) hn
  case rdb =>
    rintro reg len bs more rfl hpass h hlen hn
    exact abandoned_after_last ht (busEvents_rdb h hpass hlen) hn
  case ldcal =>
    rintro bs more rfl hpass h hlen hn
    exact abandoned_after_last ht (busEvents_ldcal h hpass hlen) hn
  case meast =>
    rintro v more rfl hpass h
    exact (meast_measures hpass).abandoned ht h
  case measp =>
    rintro v more rfl hpass h
    rw [← pressureCommandByte_eq]
    exact (measp_measures hpass).abandoned ht h

end Sys2Proof.Machine
end
